-- ==== Sys2Proof/Word.lean ====
section
/-! DEFINITION. The word type, the names of sides and tracks (spec/00, Tape, tracks and output) and the containers that hold
one value for each side, track, stream and sense line. -/

namespace Sys2Proof

/-- A byte of the control link (spec/11 R163). -/
abbrev Byte := BitVec 8

/-- The two sides of the cassette: side A carries tracks 1 and 2, side B tracks 3 and 4 (spec/00). -/
inductive Side where
  | A
  | B
  deriving DecidableEq, Repr

/-- The four head tracks (spec/00). -/
inductive Track where
  | t1
  | t2
  | t3
  | t4
  deriving DecidableEq, Repr

/-- Both sides in ascending order. -/
def Side.list : List Side := [.A, .B]

/-- All tracks in ascending order. -/
def Track.list : List Track := [.t1, .t2, .t3, .t4]

/-- The side a track belongs to (spec/00, table of sides). -/
def Track.side : Track → Side
  | .t1 => .A
  | .t2 => .A
  | .t3 => .B
  | .t4 => .B

/-- The L track of a side: track 1 of side A, track 3 of side B (spec/07 R104). -/
def Side.left : Side → Track
  | .A => .t1
  | .B => .t3

/-- The R track of a side: track 2 of side A, track 4 of side B (spec/07 R104). -/
def Side.right : Side → Track
  | .A => .t2
  | .B => .t4

/-- One value for each side. -/
structure PerSide (α : Type) where
  a : α
  b : α
  deriving DecidableEq, Repr

/-- The value held for one side. -/
def PerSide.get {α : Type} (v : PerSide α) (i : Side) : α :=
  match i with
  | .A => v.a
  | .B => v.b

/-- `v` with the value of one side replaced. -/
def PerSide.set {α : Type} (v : PerSide α) (i : Side) (x : α) : PerSide α :=
  match i with
  | .A => { v with a := x }
  | .B => { v with b := x }

/-- The same value for every side. -/
def PerSide.all {α : Type} (x : α) : PerSide α :=
  ⟨x, x⟩

/-- A function of the value of every side. -/
def PerSide.map {α β : Type} (f : α → β) (v : PerSide α) : PerSide β :=
  ⟨f v.a, f v.b⟩

/-- A function of every side and its value. -/
def PerSide.mapIdx {α β : Type} (f : Side → α → β) (v : PerSide α) : PerSide β :=
  ⟨f .A v.a, f .B v.b⟩

/-- The values in ascending order of side. -/
def PerSide.toList {α : Type} (v : PerSide α) : List α :=
  [v.a, v.b]

/-- One value for each track. -/
structure PerTrack (α : Type) where
  t1 : α
  t2 : α
  t3 : α
  t4 : α
  deriving DecidableEq, Repr

/-- The value held for one track. -/
def PerTrack.get {α : Type} (v : PerTrack α) (i : Track) : α :=
  match i with
  | .t1 => v.t1
  | .t2 => v.t2
  | .t3 => v.t3
  | .t4 => v.t4

/-- `v` with the value of one track replaced. -/
def PerTrack.set {α : Type} (v : PerTrack α) (i : Track) (x : α) : PerTrack α :=
  match i with
  | .t1 => { v with t1 := x }
  | .t2 => { v with t2 := x }
  | .t3 => { v with t3 := x }
  | .t4 => { v with t4 := x }

/-- The same value for every track. -/
def PerTrack.all {α : Type} (x : α) : PerTrack α :=
  ⟨x, x, x, x⟩

/-- A function of the value of every track. -/
def PerTrack.map {α β : Type} (f : α → β) (v : PerTrack α) : PerTrack β :=
  ⟨f v.t1, f v.t2, f v.t3, f v.t4⟩

/-- A function of every track and its value. -/
def PerTrack.mapIdx {α β : Type} (f : Track → α → β) (v : PerTrack α) : PerTrack β :=
  ⟨f .t1 v.t1, f .t2 v.t2, f .t3 v.t3, f .t4 v.t4⟩

/-- The values in ascending order of track. -/
def PerTrack.toList {α : Type} (v : PerTrack α) : List α :=
  [v.t1, v.t2, v.t3, v.t4]

/-- One value for each stream, 0 to 7 (spec/08 R118). -/
structure PerStream (α : Type) where
  s0 : α
  s1 : α
  s2 : α
  s3 : α
  s4 : α
  s5 : α
  s6 : α
  s7 : α
  deriving DecidableEq, Repr

/-- The value held for one stream. -/
def PerStream.get {α : Type} (v : PerStream α) (i : Fin 8) : α :=
  match i with
  | 0 => v.s0
  | 1 => v.s1
  | 2 => v.s2
  | 3 => v.s3
  | 4 => v.s4
  | 5 => v.s5
  | 6 => v.s6
  | 7 => v.s7

/-- `v` with the value of one stream replaced. -/
def PerStream.set {α : Type} (v : PerStream α) (i : Fin 8) (x : α) : PerStream α :=
  match i with
  | 0 => { v with s0 := x }
  | 1 => { v with s1 := x }
  | 2 => { v with s2 := x }
  | 3 => { v with s3 := x }
  | 4 => { v with s4 := x }
  | 5 => { v with s5 := x }
  | 6 => { v with s6 := x }
  | 7 => { v with s7 := x }

/-- The same value for every stream. -/
def PerStream.all {α : Type} (x : α) : PerStream α :=
  ⟨x, x, x, x, x, x, x, x⟩

/-- A function of the value of every stream. -/
def PerStream.map {α β : Type} (f : α → β) (v : PerStream α) : PerStream β :=
  ⟨f v.s0, f v.s1, f v.s2, f v.s3, f v.s4, f v.s5, f v.s6, f v.s7⟩

/-- A function of every stream and its value. -/
def PerStream.mapIdx {α β : Type} (f : Fin 8 → α → β) (v : PerStream α) : PerStream β :=
  ⟨f 0 v.s0, f 1 v.s1, f 2 v.s2, f 3 v.s3, f 4 v.s4, f 5 v.s5, f 6 v.s6, f 7 v.s7⟩

/-- The values in ascending order of stream. -/
def PerStream.toList {α : Type} (v : PerStream α) : List α :=
  [v.s0, v.s1, v.s2, v.s3, v.s4, v.s5, v.s6, v.s7]

/-- One value for each sense line, 0 to 5 (spec/09 R133). -/
structure PerLine (α : Type) where
  l0 : α
  l1 : α
  l2 : α
  l3 : α
  l4 : α
  l5 : α
  deriving DecidableEq, Repr

/-- The value held for one line. -/
def PerLine.get {α : Type} (v : PerLine α) (i : Fin 6) : α :=
  match i with
  | 0 => v.l0
  | 1 => v.l1
  | 2 => v.l2
  | 3 => v.l3
  | 4 => v.l4
  | 5 => v.l5

/-- `v` with the value of one line replaced. -/
def PerLine.set {α : Type} (v : PerLine α) (i : Fin 6) (x : α) : PerLine α :=
  match i with
  | 0 => { v with l0 := x }
  | 1 => { v with l1 := x }
  | 2 => { v with l2 := x }
  | 3 => { v with l3 := x }
  | 4 => { v with l4 := x }
  | 5 => { v with l5 := x }

/-- The same value for every line. -/
def PerLine.all {α : Type} (x : α) : PerLine α :=
  ⟨x, x, x, x, x, x⟩

/-- A function of the value of every line. -/
def PerLine.map {α β : Type} (f : α → β) (v : PerLine α) : PerLine β :=
  ⟨f v.l0, f v.l1, f v.l2, f v.l3, f v.l4, f v.l5⟩

/-- A function of every line and its value. -/
def PerLine.mapIdx {α β : Type} (f : Fin 6 → α → β) (v : PerLine α) : PerLine β :=
  ⟨f 0 v.l0, f 1 v.l1, f 2 v.l2, f 3 v.l3, f 4 v.l4, f 5 v.l5⟩

/-- The values in ascending order of line. -/
def PerLine.toList {α : Type} (v : PerLine α) : List α :=
  [v.l0, v.l1, v.l2, v.l3, v.l4, v.l5]

/-- All stream numbers in ascending order. -/
def streamList : List (Fin 8) := [0, 1, 2, 3, 4, 5, 6, 7]

/-- All line numbers in ascending order. -/
def lineList : List (Fin 6) := [0, 1, 2, 3, 4, 5]

/-- A set of tracks, such as a track mask (spec/11 R176) or the watched tracks (spec/01 R8). -/
abbrev TrackSet := PerTrack Bool

end Sys2Proof
end

