-- ==== Sys2Proof/Machine/Numbers.lean ====
section
/-! DEFINITION. The exact integer arithmetic of spec/00 (Division and rounding) and spec/03 R42, byte order (spec/11 R176), and the
CRC of the link and of blocks (spec/08 R127). Integer division by a positive divisor is the floor of the quotient. -/

namespace Sys2Proof.Machine

/-- "Rounded half up": the floor of n/d + 1/2 (spec/03 R42). -/
def roundHalfUp (n : Int) (d : Nat) : Int :=
  (2 * n + d) / (2 * d)

/-- `roundHalfUp` of a natural dividend. -/
def roundHalfUpNat (n d : Nat) : Nat :=
  (2 * n + d) / (2 * d)

/-- "Rounded half away from zero": the magnitude rounded half up, with its sign (spec/03 R42). -/
def roundHalfAway (n : Int) (d : Nat) : Int :=
  if n < 0 then -(roundHalfUp (-n) d) else roundHalfUp n d

/-- clamp(x, a, b) (spec/03 R42). -/
def clampInt (x a b : Int) : Int :=
  if x < a then a else if b < x then b else x

/-- clamp(x, a, b) of natural numbers. -/
def clampNat (x a b : Nat) : Nat :=
  if x < a then a else if b < x then b else x

/-- saturate24 (spec/03 R42). -/
def saturate24 (x : Int) : Int :=
  clampInt x (-8388608) 8388607

/-- Saturation to 16 bits (spec/03 R42). -/
def saturate16 (x : Int) : Int :=
  clampInt x (-32768) 32767

/-- The quotient rounded toward plus infinity (spec/03 R47). -/
def ceilDiv (n d : Nat) : Nat :=
  (n + d - 1) / d

/-- `n` bytes of a number, most significant first (spec/11 R176). -/
def bytesOfNat : Nat → Nat → List Byte
  | 0, _ => []
  | n + 1, v => BitVec.ofNat 8 (v / 256 ^ n) :: bytesOfNat n v

/-- `n` bytes of a signed number in two's complement, most significant first (spec/11 R176). -/
def bytesOfInt (n : Nat) (v : Int) : List Byte :=
  bytesOfNat n (v % (256 ^ n : Nat)).toNat

/-- The number whose bytes, most significant first, are the list (spec/11 R176). -/
def natOfBytes (bs : List Byte) : Nat :=
  bs.foldl (fun acc b => acc * 256 + b.toNat) 0

/-- One bit of the CRC register: shift left, and add the generator 1021h when the top bit differs from the data bit
(spec/08 R127). -/
def crcBit (register : BitVec 16) (bit : Bool) : BitVec 16 :=
  if register.msb ^^ bit then (register <<< 1) ^^^ 0x1021#16 else register <<< 1

/-- One byte of the CRC, most significant bit first (spec/08 R127). -/
def crcByte (register : BitVec 16) (b : Byte) : BitVec 16 :=
  [7, 6, 5, 4, 3, 2, 1, 0].foldl (fun r i => crcBit r (b.getLsbD i)) register

/-- The 16-bit CRC, from the register FFFFh and not inverted (spec/08 R127, spec/11 R165). -/
def crc16 (bs : List Byte) : BitVec 16 :=
  bs.foldl crcByte 0xFFFF#16

/-- 0 for clear or no, 1 for set or yes (spec/11 R171, R176). -/
def boolCode (b : Bool) : Nat :=
  if b then 1 else 0

end Sys2Proof.Machine
end

