-- ==== Sys2Proof/Syntax.lean ====
section
/-! DEFINITION. The commands of the block: one constructor for each row of spec/opcode_table.json. A host request carries the
payload bytes of its frame (spec/11 R164, R168) and stands for the event of its last CRC byte; every other row is one event of
the link, of a pin or of one of the part's own blocks (spec/95). -/

namespace Sys2Proof

/-- The four wide samples of one track in one group, in wide order (spec/01 R3). -/
structure Quad where
  w0 : BitVec 24
  w1 : BitVec 24
  w2 : BitVec 24
  w3 : BitVec 24
  deriving DecidableEq, Repr

/-- The sixteen wide samples of one group: four of each track, signed 24-bit values (spec/01 R3). -/
abbrev WideGroup := PerTrack Quad

/-- The commands of the block, in the order of the table. -/
inductive Instr where
  /-- Host request answered with the fixed part name, revision, capacities and READ_STATUS payload length (spec/11 R171). -/
  | ident (payload : List Byte)
  /-- Host request that validates, clamps and stores one side's settings group (spec/02 R18, spec/11 R169). -/
  | setSide (payload : List Byte)
  /-- Host request that validates, clamps and stores the pass settings group (spec/03 R43, spec/11 R169). -/
  | setPass (payload : List Byte)
  /-- Host request that validates and stores one stream descriptor (spec/08 R118). -/
  | setStream (payload : List Byte)
  /-- Host request that validates and stores one line setting (spec/09 R133). -/
  | setLine (payload : List Byte)
  /-- Host request that steps a side's base skew (spec/06 R90). -/
  | adjustSkew (payload : List Byte)
  /-- Host request that returns a side's skew values (spec/06 R97). -/
  | readSkew (payload : List Byte)
  /-- Host request that inserts or replaces a cue (spec/10 R157). -/
  | postCue (payload : List Byte)
  /-- Host request that removes a cue without taking it (spec/10 R160). -/
  | dropCue (payload : List Byte)
  /-- Host request that sets up a pass (spec/10 R149, R150). -/
  | arm (payload : List Byte)
  /-- Host request that starts capture (spec/10 R151). -/
  | start (payload : List Byte)
  /-- Host request that ends capture (spec/10 R152). -/
  | stop (payload : List Byte)
  /-- Host request that ends the pass at once (spec/10 R153). -/
  | abort (payload : List Byte)
  /-- Host request whose reply carries the head block of the output queue (spec/08 R129). -/
  | fetchBlock (payload : List Byte)
  /-- Host request whose reply carries the head notice (spec/11 R172). -/
  | fetchNotice (payload : List Byte)
  /-- Host request that hands out up to 16 settled defect entries (spec/05 R84). -/
  | takeDefects (payload : List Byte)
  /-- Host request that returns a snapshot of the part (spec/11 R171). -/
  | readStatus (payload : List Byte)
  /-- Host request that disarms and arms sticky flags (spec/09 R137). -/
  | clearLines (payload : List Byte)
  /-- Host request that empties the output queue and the defect list in ENDED (spec/05 R87, spec/08 R130). -/
  | discard (payload : List Byte)
  /-- Host request whose effect is deferred to the end of its exchange (spec/11 R174). -/
  | restart (payload : List Byte)
  /-- A request with a valid CRC and a kind code absent from the table (spec/11 R165, check 2). -/
  | badKindRequest (kind : Byte)
  /-- A request whose length field exceeds 512, ended at its second length byte (spec/11 R165). -/
  | lengthAbove512 (kind : Byte) (length : BitVec 16)
  /-- Select falls (spec/11 R163). -/
  | selectFall
  /-- Select rises (spec/11 R163, R166). -/
  | selectRise
  /-- A FETCH_BLOCK reply has been clocked out to its last CRC byte (spec/08 R129). -/
  | blockRemoval
  /-- A FETCH_NOTICE reply has been clocked out (spec/11 R172). -/
  | noticeRemoval
  /-- A TAKE_DEFECTS reply has been clocked out (spec/05 R84). -/
  | defectRemoval
  /-- The reply of a RESTART has been clocked out: the restart takes effect (spec/11 R174). -/
  | restartEffect
  /-- The RESET input is asserted (spec/11 R175). -/
  | lineReset
  /-- The RESET input is released; `levels` are the first samples of the six lines, HIGH as true (spec/11 R175, spec/09 R134). -/
  | resetRelease (levels : PerLine Bool)
  /-- The settle count reaches 0 (spec/01 R2). -/
  | settleEnd
  /-- A group of four wide samples is complete (spec/01 R3). -/
  | groupEvent (samples : WideGroup)
  /-- The capture index has reached 2^40 - 1 (spec/01 R6). -/
  | limitEvent
  /-- The last enabled stream's final block has entered the queue (spec/10 R154). -/
  | completionOfDraining
  /-- The resampler of a side tries its gate and produces a frame (spec/07 R104). -/
  | produceFrame (side : Side)
  /-- A raw stream takes the sample group at its next unread index (spec/08 R122). -/
  | takeSampleGroup (stream : Fin 8)
  /-- A freed queue slot is granted to the lowest-numbered waiting stream (spec/08 R128). -/
  | slotGrant
  /-- A change of a sense line is accepted (spec/09 R134). -/
  | lineChangeAccepted (line : Fin 6)
  /-- The stall timer reaches 0 (spec/09 R142). -/
  | stallExpiry
  /-- A complete request whose CRC is wrong; the kind byte is as received (spec/11 R165, check 1). -/
  | checkFailedRequest (kind : Byte)
  deriving DecidableEq, Repr

end Sys2Proof
end

