-- ==== Sys2Proof/Decode.lean ====
section
/-! DEFINITION. The decoder. The opcode table gives no row any bits, so no word spells a command; what spells a command is a request
frame on the link (spec/11 R164, R165, R168, R176), which is decoded and encoded here. -/

namespace Sys2Proof

open Sys2Proof.Machine

/-- The command a word of the opcode table's bits spells: the table gives no row any bits. -/
def decodeTableWord (_nbits _w : Nat) : Option Instr :=
  none

/-- The kind code and the payload of a host request (spec/11 R168); the commands that are not requests, and the requests refused before
their kind is known to the table, have none. -/
def Instr.request : Instr → Option (Nat × List Byte)
  | .ident p => some (0x01, p)
  | .setSide p => some (0x10, p)
  | .setPass p => some (0x11, p)
  | .setStream p => some (0x12, p)
  | .setLine p => some (0x13, p)
  | .adjustSkew p => some (0x20, p)
  | .readSkew p => some (0x21, p)
  | .postCue p => some (0x28, p)
  | .dropCue p => some (0x29, p)
  | .arm p => some (0x30, p)
  | .start p => some (0x31, p)
  | .stop p => some (0x32, p)
  | .abort p => some (0x33, p)
  | .fetchBlock p => some (0x40, p)
  | .fetchNotice p => some (0x41, p)
  | .takeDefects p => some (0x42, p)
  | .readStatus p => some (0x48, p)
  | .clearLines p => some (0x50, p)
  | .discard p => some (0x58, p)
  | .restart p => some (0x7F, p)
  | .badKindRequest _ => none
  | .lengthAbove512 _ _ => none
  | .selectFall => none
  | .selectRise => none
  | .blockRemoval => none
  | .noticeRemoval => none
  | .defectRemoval => none
  | .restartEffect => none
  | .lineReset => none
  | .resetRelease _ => none
  | .settleEnd => none
  | .groupEvent _ => none
  | .limitEvent => none
  | .completionOfDraining => none
  | .produceFrame _ => none
  | .takeSampleGroup _ => none
  | .slotGrant => none
  | .lineChangeAccepted _ => none
  | .stallExpiry => none
  | .checkFailedRequest _ => none

/-- The request of a kind code with a payload; a code absent from the table of R168 is a BAD_KIND request (spec/11 R165, R168). -/
def requestOf (kind : Byte) (p : List Byte) : Instr :=
  match kind.toNat with
  | 0x01 => .ident p
  | 0x10 => .setSide p
  | 0x11 => .setPass p
  | 0x12 => .setStream p
  | 0x13 => .setLine p
  | 0x20 => .adjustSkew p
  | 0x21 => .readSkew p
  | 0x28 => .postCue p
  | 0x29 => .dropCue p
  | 0x30 => .arm p
  | 0x31 => .start p
  | 0x32 => .stop p
  | 0x33 => .abort p
  | 0x40 => .fetchBlock p
  | 0x41 => .fetchNotice p
  | 0x42 => .takeDefects p
  | 0x48 => .readStatus p
  | 0x50 => .clearLines p
  | 0x58 => .discard p
  | 0x7F => .restart p
  | _ => .badKindRequest kind

/-- The bytes of a request that its CRC covers: kind, length, payload (spec/11 R165). -/
def requestBody (kind : Byte) (p : List Byte) : List Byte :=
  [kind] ++ bytesOfNat 2 p.length ++ p

/-- A request frame: A5h, kind, length, payload, CRC (spec/11 R164, R176). -/
def requestFrame (kind : Byte) (p : List Byte) : List Byte :=
  [0xA5#8] ++ requestBody kind p ++ bytesOfNat 2 (crc16 (requestBody kind p)).toNat

/-- The frame of a host request (spec/11 R164). -/
def encodeRequest (i : Instr) : Option (List Byte) :=
  i.request.map fun r => requestFrame (BitVec.ofNat 8 r.1) r.2

/-- The command a frame without its A5h completes: ended by a length above 512, by a wrong CRC, or whole (spec/11 R163, R165). None for
a frame that is not complete, or that goes on beyond its last byte. -/
def decodeBody (kind high low : Byte) (rest : List Byte) : Option Instr :=
  let n := natOfBytes [high, low]
  if 512 < n then if rest = [] then some (.lengthAbove512 kind (high ++ low)) else none
  else if rest.length = n + 2 then
    some (if bytesOfNat 2 (crc16 (requestBody kind (rest.take n))).toNat = rest.drop n then requestOf kind (rest.take n)
      else .checkFailedRequest kind)
  else none

/-- The command that the bytes clocked in since select fell complete (spec/11 R163, R164). -/
def decodeRequest : List Byte → Option Instr
  | start :: kind :: high :: low :: rest => if start = 0xA5#8 then decodeBody kind high low rest else none
  | _ => none

end Sys2Proof
end

