-- ==== Sys2Proof/Machine/State.lean ====
section
/-! DEFINITION. The state of the AT440 as plain data: one structure for each block of spec/00's block table, the settings, and
the queue of waiting commands. Positions, counts and steps are natural numbers and sample values integers, because the spec
computes them exactly (spec/00 Division and rounding, spec/03 R42); the ranges the spec gives are invariants of Safety.lean. -/

namespace Sys2Proof.Machine

/-! ### Settings -/

/-- What a side's speed is measured from (spec/02 R18). -/
inductive SideSource where
  | none
  | biasL
  | biasR
  | biasBoth
  | deck
  deriving DecidableEq, Repr

/-- Whether trim is measured into the speed table (spec/02 R18). -/
inductive SkewMode where
  | manual
  | auto
  deriving DecidableEq, Repr

/-- The filter the envelope is taken from (spec/04 R56). -/
inductive DetectBand where
  | reference
  | programme
  deriving DecidableEq, Repr

/-- The settings of one side (spec/02 R18, spec/03 R48, spec/04 R56). -/
structure SideSettings where
  enabled : Bool
  source : SideSource
  pNom : Nat
  tNom : Nat
  window : Nat
  speedWindow : Nat
  smoothing : Nat
  confirm : Nat
  holdLimit : Nat
  acquire : Nat
  skewMode : SkewMode
  detectBand : DetectBand
  dThr : Nat
  rThr : Nat
  debounce : Nat
  lift : Bool
  gMax : Nat
  deriving DecidableEq, Repr

/-- The pass settings (spec/03 R43, spec/09 R133, spec/11 R173). -/
structure PassSettings where
  rate : Nat
  factor : Nat
  stallCount : Nat
  stopOnStall : Bool
  spliceLead : Nat
  spliceGuard : Nat
  highWater : Nat
  noticeAttention : Bool
  deriving DecidableEq, Repr

/-- Where a stream's samples come from, with the channels that suit the source: L, R or both of a side, or a set of tracks of
the rings (spec/08 R118). -/
inductive StreamSource where
  | side (x : Side) (left right : Bool)
  | raw (tracks : TrackSet)
  deriving DecidableEq, Repr

/-- Sample formats (spec/08 R124). -/
inductive SampleFormat where
  | s16
  | s24
  | s32
  deriving DecidableEq, Repr

/-- A stream descriptor (spec/08 R118). -/
structure Descriptor where
  enabled : Bool
  source : StreamSource
  format : SampleFormat
  framesPerBlock : Nat
  deriving DecidableEq, Repr

/-- The action of a sense line (spec/09 R133). -/
inductive LineAction where
  | none
  | tacho
  | start
  | stop
  | mark
  | splice
  deriving DecidableEq, Repr

/-- The edge of a sense line that makes a line event (spec/09 R133, R135). -/
inductive Edge where
  | rise
  | fall
  | both
  deriving DecidableEq, Repr

/-- The setting of one sense line (spec/09 R133). -/
structure LineSetting where
  action : LineAction
  edge : Edge
  debounce : Nat
  notice : Bool
  deriving DecidableEq, Repr

/-- All settings of the part: what the host stores and what ARM copies into the pass (spec/10 R150). -/
structure Settings where
  sides : PerSide SideSettings
  pass : PassSettings
  streams : PerStream Descriptor
  lines : PerLine LineSetting
  deriving DecidableEq, Repr

/-- The defaults a line reset stores (spec/11 R170). -/
def Settings.default : Settings where
  sides := .all
    { enabled := true, source := .none, pNom := 0, tNom := 3840, window := 512, speedWindow := 40, smoothing := 3, confirm := 4,
      holdLimit := 16, acquire := 16, skewMode := .manual, detectBand := .reference, dThr := 1024, rThr := 2048, debounce := 4,
      lift := false, gMax := 8192 }
  pass :=
    { rate := 96000, factor := 1, stallCount := 0, stopOnStall := false, spliceLead := 0, spliceGuard := 2048, highWater := 8,
      noticeAttention := true }
  streams := .all { enabled := false, source := .side .A true true, format := .s24, framesPerBlock := 512 }
  lines := .all { action := .none, edge := .rise, debounce := 0, notice := false }

/-! ### Converter front end (spec/01) -/

/-- The converter state (spec/01 R1). -/
inductive ConverterState where
  | stopped
  | settling
  | settled
  | capturing
  deriving DecidableEq, Repr

/-- A track's clip detector (spec/01 R9): the run count, the wide index of the run's first sample and of its latest full-scale
sample, and the span flag. -/
structure ClipDetector where
  run : Nat
  first : Nat
  last : Nat
  span : Bool
  deriving DecidableEq, Repr

/-- The idle clip detector (spec/01 R17). -/
def ClipDetector.idle : ClipDetector := ⟨0, 0, 0, false⟩

/-- The converter front end (spec/01 R1 to R3, R8, R9). `gathered` holds the wide samples of the group not yet complete. -/
structure FrontEnd where
  converter : ConverterState
  settleCount : Nat
  wideCount : Nat
  gathered : List (PerTrack (BitVec 24))
  watched : TrackSet
  clip : PerTrack ClipDetector
  deriving DecidableEq, Repr

/-! ### Capture ring (spec/01) -/

/-- One ring: the slots that do not hold 0, in ascending order (spec/01 R11: a cleared slot holds 0). -/
abbrev Ring := List (Nat × Int)

/-- The capture ring (spec/01 R5, R7, R11, R13, R15). The oldest-needed index of a consumer is a view of its reader. -/
structure CaptureRing where
  rings : PerTrack Ring
  w : Nat
  e : Option Nat
  sideConsumer : PerSide Bool
  streamConsumer : PerStream Bool
  sideLost : PerSide Bool
  streamLost : PerStream Bool
  deriving DecidableEq, Repr

/-! ### Reference tracker (spec/02, spec/03) -/

/-- Window verdicts (spec/02 R24). -/
inductive Verdict where
  | inside
  | out
  | noRef
  | splice
  | short
  deriving DecidableEq, Repr

/-- Lock states (spec/02 R27). -/
inductive LockState where
  | off
  | search
  | confirm
  | locked
  | hold
  | lapsed
  deriving DecidableEq, Repr

/-- One filtered track: filter delay memory (R19), held filtered value (R20), latest crossing (R21). -/
structure FilteredTrack where
  memory : Nat
  held : Option Int
  latest : Option Nat
  deriving DecidableEq, Repr

/-- The state of a filtered track when a pass enters RUNNING (spec/02 R41). -/
def FilteredTrack.cleared : FilteredTrack := ⟨0, none, none⟩

/-- The sums of an open window: period count and period sum of each track (R21), offset sum and count (R38). -/
structure WindowSums where
  nL : Nat
  pL : Nat
  nR : Nat
  pR : Nat
  offsetSum : Nat
  offsetCount : Nat
  deriving DecidableEq, Repr

/-- Empty window sums (spec/02 R22). -/
def WindowSums.zero : WindowSums := ⟨0, 0, 0, 0, 0, 0⟩

/-- An entry of the speed table (spec/02 R34). -/
structure SpeedEntry where
  window : Nat
  verdict : Option Verdict
  n : Nat
  pSum : Nat
  rawStep : Option Nat
  baseStep : Nat
  appliedStep : Option Nat
  trim : Int
  lock : LockState
  deriving DecidableEq, Repr

/-- The tracker of one side (spec/02, spec/03 R47, R49). `windows` is the number of the open window, which is the number of
entries written; `boundary` is the greatest boundary reached in the pass (R32, R158); `displaced` is the entry whose slot the
end-of-capture close took, absent otherwise: it stays readable to a draining side (spec/07 R101, R102, log 31). -/
structure Tracker where
  source : SideSource
  pEff : Nat
  left : FilteredTrack
  right : FilteredTrack
  sums : WindowSums
  lock : LockState
  confirm : Nat
  hold : Nat
  acqCount : Nat
  acqN : Nat
  acqP : Nat
  lastAccepted : Nat
  lower : Nat
  upper : Nat
  table : List (Nat × SpeedEntry)
  displaced : Option SpeedEntry
  windows : Nat
  final : Nat
  skewList : List Nat
  boundary : Option Nat
  deriving DecidableEq, Repr

/-! ### Level monitor (spec/04) -/

/-- Span states (spec/04 R60). -/
inductive SpanState where
  | quiet
  | opening
  | open
  | closing
  deriving DecidableEq, Repr

/-- Tick membership (spec/04 R58). -/
inductive Membership where
  | pending
  | outside
  | inside
  deriving DecidableEq, Repr

/-- Tick classes (spec/04 R64). -/
inductive TickClass where
  | outside
  | unlifted
  | lifted
  | limited
  deriving DecidableEq, Repr

/-- Dispositions of a dropout span (spec/04 R66). -/
inductive Disposition where
  | lifted
  | limited
  | unlifted
  deriving DecidableEq, Repr

/-- A tick record (spec/04 R58); class and gain are absent while the membership is PENDING. -/
structure TickRecord where
  tick : Nat
  envelope : Nat
  lift : Bool
  gMax : Nat
  membership : Membership
  tickClass : Option TickClass
  gain : Option Nat
  deriving DecidableEq, Repr

/-- An open dropout span (spec/04 R60): first tick, last confirmed tick, frozen level, depth, disposition. -/
structure Span where
  first : Nat
  last : Nat
  level : Nat
  depth : Nat
  disposition : Disposition
  deriving DecidableEq, Repr

/-- The level monitor of one track (spec/04). `ticks` counts the completed ticks of the pass, `peak` is the largest absolute
filtered value of the open tick so far, `boundary` the greatest tick boundary reached (R57, R158). `finalTick` is the record of the
partial final tick, absent until capture ends inside a tick (R71); it takes no slot of the ring (log 29). -/
structure Monitor where
  monitored : Bool
  lift : Bool
  gMax : Nat
  memory : Nat
  level : Nat
  ticks : Nat
  peak : Nat
  state : SpanState
  runCount : Nat
  runFirst : Nat
  span : Option Span
  records : List (Nat × TickRecord)
  finalTick : Option TickRecord
  settled : Nat
  boundary : Option Nat
  deriving DecidableEq, Repr

/-! ### Defect list (spec/05) -/

/-- Defect kinds in the order of their rank (spec/05 R75). -/
inductive DefectKind where
  | lost
  | splice
  | refloss
  | dropout
  | clip
  | mark
  deriving DecidableEq, Repr

/-- The reporters that may hold a contribution (spec/05 R77). -/
inductive Reporter where
  | clip (t : Track)
  | dropout (t : Track)
  | lossSide (x : Side)
  | lossStream (i : Fin 8)
  deriving DecidableEq, Repr

/-- A defect entry (spec/05 R74). `openBy` lists the reporters whose contribution links to the entry (R77); with `settled` it
gives the entry's state (R80, R81). -/
structure DefectEntry where
  kind : DefectKind
  tracks : TrackSet
  start : Nat
  length : Nat
  depth : Option Nat
  disposition : Option Disposition
  stream : Option (Fin 8)
  untimed : Bool
  carried : Bool
  settled : Bool
  openBy : List Reporter
  deriving DecidableEq, Repr

/-- The six unlisted counts (spec/05 R83). -/
structure KindCounts where
  lost : Nat
  splice : Nat
  refloss : Nat
  dropout : Nat
  clip : Nat
  mark : Nat
  deriving DecidableEq, Repr

/-- All counts 0. -/
def KindCounts.zero : KindCounts := ⟨0, 0, 0, 0, 0, 0⟩

/-- The defect list (spec/05). `unlistedBy` lists the reporters whose contribution is marked unlisted (R77, R83); `fullArmed` is
the full-notice flag, ARMED as true. -/
structure DefectList where
  entries : List DefectEntry
  unlistedBy : List Reporter
  unlisted : KindCounts
  fullArmed : Bool
  takenSplice : PerSide (Option Nat)
  deriving DecidableEq, Repr

/-- The empty defect list (spec/05 R88). -/
def DefectList.empty : DefectList := ⟨[], [], .zero, true, .all none⟩

/-! ### Resampler (spec/06, spec/07) -/

/-- Resampler states (spec/07 R100). -/
inductive ResamplerState where
  | off
  | active
  | draining
  | finished
  deriving DecidableEq, Repr

/-- Wait causes (spec/07 R103). -/
inductive WaitCause where
  | none
  | entry
  | settle
  | room
  deriving DecidableEq, Repr

/-- Coefficient classes (spec/07 R105). -/
inductive CoefficientClass where
  | A
  | B
  | C
  deriving DecidableEq, Repr

/-- The resampler of one side (spec/07 R99, spec/06 R89). `position` is in step units. -/
structure Resampler where
  state : ResamplerState
  position : Nat
  frames : Nat
  passed : Option Nat
  loss : Bool
  wait : WaitCause
  baseSkew : Int
  deriving DecidableEq, Repr

/-! ### Streams and output queue (spec/08) -/

/-- Stream states (spec/08 R120). -/
inductive StreamState where
  | off
  | filling
  | waiting
  | finalWait
  | done
  deriving DecidableEq, Repr

/-- The block flags a source sets (spec/07 R114 to R116, spec/08 R121, R122). -/
structure FlagSet where
  unlocked : Bool
  held : Bool
  lifted : Bool
  limited : Bool
  lost : Bool
  deriving DecidableEq, Repr

/-- No flag. -/
def FlagSet.empty : FlagSet := ⟨false, false, false, false, false⟩

/-- One stream (spec/08 R120). `buffer` holds the slots in production order, each as its sample bytes; its length is the fill. -/
structure Stream where
  state : StreamState
  buffer : List (List Byte)
  emit : Nat
  first : Nat
  last : Nat
  flags : FlagSet
  discards : Nat
  r : Nat
  loss : Bool
  deriving DecidableEq, Repr

/-- A stream as ARM, RESTART and line reset leave it (spec/08 R131). -/
def Stream.cleared : Stream := ⟨.off, [], 0, 0, 0, .empty, 0, 0, false⟩

/-- A sealed block: the fields of its header, its sample data in slot order, and its CRC (spec/08 R125, R127). -/
structure Block where
  stream : Fin 8
  source : StreamSource
  flags : FlagSet
  finalFlag : Bool
  partialFlag : Bool
  reversed : Bool
  frames : Nat
  emit : Nat
  order : Int
  first : Nat
  last : Nat
  format : SampleFormat
  crc : BitVec 16
  data : List Byte
  deriving DecidableEq, Repr

/-- The output queue (spec/08 R128, R131): its sealed blocks, oldest first, and the waiting streams to which a removal has granted the
slot it freed, the first granted first, each until SLOT_GRANT seals its block (log 14). -/
structure OutputQueue where
  blocks : List Block
  granted : List (Fin 8)
  deriving DecidableEq, Repr

/-- The empty output queue (spec/08 R131). -/
def OutputQueue.empty : OutputQueue := ⟨[], []⟩

/-! ### Sense unit (spec/09) -/

/-- Sticky flags (spec/09 R136). -/
inductive Sticky where
  | disarmed
  | armed
  | tripped
  deriving DecidableEq, Repr

/-- One sense line (spec/09 R134, R136): debounced level (HIGH as true), debounce count, sticky flag. -/
structure Line where
  level : Bool
  count : Nat
  sticky : Sticky
  deriving DecidableEq, Repr

/-- The sense unit (spec/09 R140, R142, R144, R146). `timer` is absent while the stall timer is stopped. -/
structure SenseUnit where
  lines : PerLine Line
  reference : Bool
  tacho : Nat
  tLast : Option Nat
  fresh : Bool
  stalled : Bool
  timer : Option Nat
  splices : List Nat
  discarded : Nat
  deriving DecidableEq, Repr

/-! ### Pass controller (spec/10) -/

/-- Pass states (spec/10 R148). -/
inductive PassState where
  | idle
  | armed
  | running
  | draining
  | ended
  deriving DecidableEq, Repr

/-- End causes (spec/10 R148). -/
inductive EndCause where
  | stopped
  | endLine
  | stall
  | limit
  | aborted
  deriving DecidableEq, Repr

/-- What a cue sets, with its target (spec/10 R157). -/
inductive CueBody where
  | source (x : Side) (s : SideSource) (pNom : Option Nat)
  | lift (x : Side) (on : Bool)
  | gMax (x : Side) (value : Nat)
  | skew (x : Side) (value : Int)
  | mark (tracks : TrackSet)
  deriving DecidableEq, Repr

/-- A cue (spec/10 R157). -/
structure Cue where
  position : Nat
  body : CueBody
  late : Bool
  deriving DecidableEq, Repr

/-- The pass controller (spec/10), with the values ARM and RESTART compute for the whole pass: the pass nominal step (spec/03
R44) and the coefficient class (spec/07 R105). `armed` tells whether a pass has been armed since the last RESTART or line reset
(spec/06 R97). -/
structure PassController where
  state : PassState
  cause : Option EndCause
  startPending : Bool
  armed : Bool
  stored : Settings
  pass : Settings
  nominal : Nat
  coefficients : CoefficientClass
  cues : List Cue
  deriving DecidableEq, Repr

/-! ### Link port and notice queue (spec/11) -/

/-- The phase of an exchange (spec/11 R163); `idle` is select high, no exchange. -/
inductive Phase where
  | idle
  | hunt
  | request
  | turnaround
  | reply
  | trail
  | ignore
  deriving DecidableEq, Repr

/-- Reply statuses (spec/11 R167). -/
inductive Status where
  | ok
  | adjusted
  | late
  | already
  | empty
  | notFound
  | state
  | badValue
  | badKind
  | badLength
  | checkFailed
  | full
  | badSetup
  deriving DecidableEq, Repr

/-- A reply: the kind echoed, the status and the payload (spec/11 R164). -/
structure Reply where
  kind : Byte
  status : Status
  payload : List Byte
  deriving DecidableEq, Repr

/-- The link port (spec/11 R163): the phase, the request bytes clocked in, the bytes clocked out in the present phase, and the
reply of the exchange. -/
structure LinkPort where
  phase : Phase
  received : List Byte
  sent : Nat
  reply : Option Reply
  deriving DecidableEq, Repr

/-- The link port with no exchange (spec/11 R175). -/
def LinkPort.idle : LinkPort := ⟨.idle, [], 0, none⟩

/-- What a notice tells (spec/11 R172, R176). -/
inductive NoticeBody where
  | pass (state : PassState) (cause : Option EndCause) (cues : Nat)
  | lock (x : Side) (state : LockState)
  | line (i : Fin 6) (high : Bool)
  | stall (begins : Bool) (line : Fin 6)
  | lossSide (x : Side)
  | lossStream (i : Fin 8)
  | defectsFull (kind : DefectKind)
  | cue (body : CueBody) (late : Bool)
  deriving DecidableEq, Repr

/-- A notice with its origin index (spec/11 R172). -/
structure Notice where
  body : NoticeBody
  origin : Nat
  deriving DecidableEq, Repr

/-- The notice queue, oldest first, and the lost-notice count (spec/11 R172). -/
structure NoticeQueue where
  queue : List Notice
  lost : Nat
  deriving DecidableEq, Repr

/-! ### The part -/

/-- The model's own clock: `ticks` counts the wide ticks of idle steps and selects the free values on the input pins (log 3);
`lineReset` is the RESET input held at its active level (spec/11 R175). -/
structure Clock where
  ticks : Nat
  lineReset : Bool
  deriving DecidableEq, Repr

/-- The state of the AT440 and its queue of waiting commands. -/
structure State where
  pending : List Instr
  clock : Clock
  cfe : FrontEnd
  crg : CaptureRing
  rtr : PerSide Tracker
  lvm : PerTrack Monitor
  dfl : DefectList
  rsp : PerSide Resampler
  sas : PerStream Stream
  oq : OutputQueue
  sns : SenseUnit
  psc : PassController
  link : LinkPort
  notices : NoticeQueue
  deriving DecidableEq, Repr

/-- Why a step would stop with a fault. The spec describes no stop of the block, so no command ends in one (log 17). -/
inductive Fault where
  /-- Raised by nothing: the spec gives the AT440 no event that stops it. Safe. -/
  | neverRaised
  deriving DecidableEq, Repr

/-- Why a step would be refused. -/
inductive Refusal where
  /-- Raised by an arm of exec whose command has no meaning yet; none is left. Safe. -/
  | notModelled (mnemonic : String)
  deriving DecidableEq, Repr

/-- The part after RESET is released: every value as the tables of resets give it (spec/01 R17, spec/02 R41, spec/03 R55,
spec/04 R73, spec/05 R88, spec/06 R98, spec/07 R117, spec/08 R131, spec/09 R147, spec/10 R162, spec/11 R175). The debounced
levels are those of the first samples, here LOW (log 1). -/
def State.reset : State where
  pending := []
  clock := ⟨0, false⟩
  cfe := ⟨.stopped, 0, 0, [], .all false, .all .idle⟩
  crg := ⟨.all [], 0, none, .all false, .all false, .all false, .all false⟩
  rtr := .all
    { source := .none, pEff := 0, left := .cleared, right := .cleared, sums := .zero, lock := .off, confirm := 0, hold := 0,
      acqCount := 0, acqN := 0, acqP := 0, lastAccepted := 33554432, lower := 32212254, upper := 34896610, table := [],
      displaced := none, windows := 0, final := 0, skewList := [], boundary := none }
  lvm := .all
    { monitored := false, lift := false, gMax := 8192, memory := 0, level := 0, ticks := 0, peak := 0, state := .quiet,
      runCount := 0, runFirst := 0, span := none, records := [], finalTick := none, settled := 0, boundary := none }
  dfl := .empty
  rsp := .all { state := .off, position := 0, frames := 0, passed := none, loss := false, wait := .none, baseSkew := 0 }
  sas := .all .cleared
  oq := .empty
  sns :=
    { lines := .all ⟨false, 0, .disarmed⟩, reference := false, tacho := 0, tLast := none, fresh := false, stalled := false,
      timer := none, splices := [], discarded := 0 }
  psc :=
    { state := .idle, cause := none, startPending := false, armed := false, stored := .default, pass := .default,
      nominal := 33554432, coefficients := .B, cues := [] }
  link := .idle
  notices := ⟨[], 0⟩

end Sys2Proof.Machine
end

