-- ==== Sys2Proof/Config.lean ====
section
/-! DEFINITION. The capacities fixed in the part (spec/00, Fixed capacities and limits) and the free values: constants with no
body for what the spec fixes in the part without listing it, and for what arrives on the input pins. -/

namespace Sys2Proof.Config

open Sys2Proof.Machine

/-! ### Capacities -/

/-- Slots of a capture ring (spec/01 R11). -/
abbrev ringSlots : Nat := 65536
/-- The limit of the capture index (spec/01 R6). -/
abbrev captureLimit : Nat := 2 ^ 40 - 1
/-- Wide samples discarded after ARM (spec/01 R2). -/
abbrev settleLength : Nat := 4096
/-- What a jump adds to an overrun consumer's oldest-needed index, and the length of a lost span (spec/01 R14, R15). -/
abbrev lostLength : Nat := 4096
/-- Entries of the defect list (spec/05 R75). -/
abbrev defectEntries : Nat := 512
/-- Blocks of the output queue (spec/08 R128). -/
abbrev queueBlocks : Nat := 64
/-- Entries of the cue list (spec/10 R157). -/
abbrev cueEntries : Nat := 16
/-- Entries of the notice queue (spec/11 R172). -/
abbrev noticeEntries : Nat := 32
/-- Entries of the pending splice queue (spec/09 R144). -/
abbrev spliceEntries : Nat := 8
/-- Slots of a ring of tick records (spec/04 R58). -/
abbrev tickSlots : Nat := 4096
/-- TTA samples of a tick (spec/04 R57). -/
abbrev tickLength : Nat := 16
/-- Step units of one TTA sample (spec/00). -/
abbrev stepUnit : Nat := 2 ^ 24

/-! ### Free values

Nothing constrains these constants: a statement that mentions them holds for every value (logs 3, 4 and 11). -/

/-- The wide sample of a track at a wide tick of the model's clock: what stands on the track input (spec/01 R3). -/
opaque trackInput : Nat → Track → BitVec 24

/-- The level of a sense line at a wide tick of the model's clock, HIGH as true (spec/09 R134). -/
opaque lineInput : Nat → Fin 6 → Bool

/-- One step of the reference band filter of a side: from the delay memory and a wide sample to the new memory and the filtered
value (spec/02 R19, coefficients not listed). -/
opaque referenceBand : Side → Nat → Int → Nat × BitVec 24

/-- One step of a detect filter of a track, by band (spec/04 R57, coefficients not listed). -/
opaque detectFilter : DetectBand → Track → Nat → Int → Nat × BitVec 24

/-- The interpolator's coefficient tables as they may stand in the part: class, phase, tap number from 0 (t = -7) to 15 (t = 8)
(spec/07 R105, not listed). -/
opaque coefficientTable : CoefficientClass → Fin 64 → Fin 16 → Int

/-- The code of a converter state in READ_STATUS, which section 11.8 does not list (spec/11 R171). -/
opaque converterCode : ConverterState → Byte
/-- The code of a coefficient class in READ_STATUS (spec/11 R171, not listed). -/
opaque classCode : CoefficientClass → Byte
/-- The code of a resampler state in READ_STATUS (spec/11 R171, not listed). -/
opaque resamplerCode : ResamplerState → Byte
/-- The code of a wait cause in READ_STATUS (spec/11 R171, not listed). -/
opaque waitCode : WaitCause → Byte
/-- The code of a span state in READ_STATUS (spec/11 R171, not listed). -/
opaque spanCode : SpanState → Byte
/-- The code of a stream state in READ_STATUS (spec/11 R171, not listed). -/
opaque streamCode : StreamState → Byte
/-- The code of the stall state in READ_STATUS, STALLED as true (spec/11 R171, not listed). -/
opaque stallCode : Bool → Byte
/-- The code of the full-notice flag in READ_STATUS, ARMED as true (spec/11 R171, not listed). -/
opaque fullFlagCode : Bool → Byte

end Sys2Proof.Config
end

