-- ==== Sys2Proof/Machine/Ops.lean ====
section
/-! DEFINITION. The operations several blocks share: addressed stores, sets of tracks, the notice queue and ATTN, reading the
capture ring, and the views of the state that more than one block uses. -/

namespace Sys2Proof.Machine

/-! ### Addressed stores

A store is a list of (slot, content) with slots strictly rising. -/

/-- The content of a slot, if it is listed. -/
def slotFind {α : Type} : List (Nat × α) → Nat → Option α
  | [], _ => none
  | (k, v) :: rest, i => if k = i then some v else slotFind rest i

/-- The store with a slot given a content, in ascending order. -/
def slotPut {α : Type} : List (Nat × α) → Nat → α → List (Nat × α)
  | [], i, x => [(i, x)]
  | (k, v) :: rest, i, x =>
    if i < k then (i, x) :: (k, v) :: rest
    else if i = k then (i, x) :: rest
    else (k, v) :: slotPut rest i x

/-- The store with a slot not listed. -/
def slotErase {α : Type} : List (Nat × α) → Nat → List (Nat × α)
  | [], _ => []
  | (k, v) :: rest, i => if k = i then rest else (k, v) :: slotErase rest i

/-- The canonical form of a store: slots strictly rising. -/
def slotsRise {α : Type} : List (Nat × α) → Bool
  | [] => true
  | [_] => true
  | (k, _) :: (l, w) :: rest => decide (k < l) && slotsRise ((l, w) :: rest)

/-- What a slot of a ring holds: an unlisted slot holds 0, as ARM, RESTART and line reset leave it (spec/01 R11). -/
def ringRead (r : Ring) (i : Nat) : Int :=
  (slotFind r i).getD 0

/-- A ring with a slot written; a slot that holds 0 is not listed (spec/01 R11). -/
def ringWrite (r : Ring) (i : Nat) (x : Int) : Ring :=
  if x = 0 then slotErase r i else slotPut r i x

/-- The canonical form of a ring: slots strictly rising and below 65,536, and no slot listed that holds 0. -/
def ringWf (r : Ring) : Bool :=
  slotsRise r && r.all (fun c => decide (c.1 < Config.ringSlots) && decide (c.2 ≠ 0))

/-! ### Sets of tracks -/

/-- The tracks of one side (spec/00). -/
def sideTracks : Side → TrackSet
  | .A => ⟨true, true, false, false⟩
  | .B => ⟨false, false, true, true⟩

/-- One track. -/
def oneTrack (t : Track) : TrackSet :=
  (PerTrack.all false).set t true

/-- Every track of either set. -/
def trackUnion (a b : TrackSet) : TrackSet :=
  ⟨a.t1 || b.t1, a.t2 || b.t2, a.t3 || b.t3, a.t4 || b.t4⟩

/-- Every track of both sets. -/
def trackInter (a b : TrackSet) : TrackSet :=
  ⟨a.t1 && b.t1, a.t2 && b.t2, a.t3 && b.t3, a.t4 && b.t4⟩

/-- The set names no track. -/
def trackEmpty (a : TrackSet) : Bool :=
  !(a.t1 || a.t2 || a.t3 || a.t4)

/-- The tracks of the set in ascending order. -/
def trackList (a : TrackSet) : List Track :=
  Track.list.filter a.get

/-- The code of a track mask: bit 0 for track 1 up to bit 3 for track 4 (spec/11 R176). -/
def trackMask (a : TrackSet) : Nat :=
  boolCode a.t1 + 2 * boolCode a.t2 + 4 * boolCode a.t3 + 8 * boolCode a.t4

/-- The track set of a mask code below 16. -/
def trackSetOf (m : Nat) : TrackSet :=
  ⟨m.testBit 0, m.testBit 1, m.testBit 2, m.testBit 3⟩

/-! ### Notices and attention -/

/-- A notice queued: it joins the tail, or is discarded and counted when 32 are held (spec/11 R172). -/
def NoticeQueue.push (q : NoticeQueue) (n : Notice) : NoticeQueue :=
  if q.queue.length < Config.noticeEntries then { q with queue := q.queue ++ [n] }
  else { q with lost := if q.lost < 255 then q.lost + 1 else q.lost }

/-- The state with a notice queued. -/
def State.notify (s : State) (body : NoticeBody) (origin : Nat) : State :=
  { s with notices := s.notices.push ⟨body, origin⟩ }

/-- The ATTN output: deasserted while RESET is held, and otherwise asserted while a notice waits and notice attention is on, or
the output queue is at the high-water setting (spec/11 R173). The stored settings act, not the pass copies (spec/11 R170). -/
def State.attn (s : State) : Bool :=
  !s.clock.lineReset &&
    ((!s.notices.queue.isEmpty && s.psc.stored.pass.noticeAttention) ||
      decide (s.psc.stored.pass.highWater ≤ s.oq.blocks.length))

/-! ### Views of the pass -/

/-- The integer part I of a read position (spec/07 R99). -/
def Resampler.index (r : Resampler) : Nat :=
  r.position / Config.stepUnit

/-- The fraction F of a read position (spec/07 R99). -/
def Resampler.fraction (r : Resampler) : Nat :=
  r.position % Config.stepUnit

/-- The oldest-needed index of a side's resampler, I - 15 (spec/01 R13). -/
def Resampler.oldest (r : Resampler) : Int :=
  (r.index : Int) - 15

/-- The side takes part in the pass: its pass copy is enabled (spec/10 R150). -/
def State.sideOn (s : State) (x : Side) : Bool :=
  (s.psc.pass.sides.get x).enabled

/-- Stream `i` is a restored stream of side `x` enabled in the pass (spec/07 R109). -/
def State.restores (s : State) (x : Side) (i : Fin 8) : Bool :=
  (s.psc.pass.streams.get i).enabled &&
    match (s.psc.pass.streams.get i).source with
    | .side y _ _ => decide (y = x)
    | .raw _ => false

/-- The tracks of stream `i` when it is a raw stream enabled in the pass (spec/08 R122). -/
def State.rawTracks (s : State) (i : Fin 8) : Option TrackSet :=
  if (s.psc.pass.streams.get i).enabled then
    match (s.psc.pass.streams.get i).source with
    | .side _ _ _ => none
    | .raw ts => some ts
  else none

/-- The streams enabled in the pass, in ascending order. -/
def State.streamsOn (s : State) : List (Fin 8) :=
  streamList.filter fun i => (s.psc.pass.streams.get i).enabled

/-- The line of the pass whose action is TACHO (spec/09 R133: at most one). -/
def Settings.tachoLine (g : Settings) : Option (Fin 6) :=
  lineList.find? fun i => decide ((g.lines.get i).action = .tacho)

/-- The CRG's answer to a read of one track by capture index: the stored sample inside the retained range, else 0 (spec/01
R12). -/
def CaptureRing.read (c : CaptureRing) (t : Track) (n : Int) : Int :=
  if n < 0 then 0
  else if (c.w : Int) ≤ n then 0
  else if n < (c.w : Int) - Config.ringSlots then 0
  else ringRead (c.rings.get t) (n.toNat % Config.ringSlots)

/-! ### Cues -/

/-- Cues are sorted by position, then target (side A, side B, then masks), then kind (spec/10 R157). -/
def CueBody.target : CueBody → Nat
  | .source .A _ _ => 0
  | .source .B _ _ => 1
  | .lift .A _ => 0
  | .lift .B _ => 1
  | .gMax .A _ => 0
  | .gMax .B _ => 1
  | .skew .A _ => 0
  | .skew .B _ => 1
  | .mark ts => 2 + trackMask ts

/-- The rank of a cue kind: SOURCE, LIFT, GMAX, SKEW, MARK, which is also its code (spec/10 R157, spec/11 R176). -/
def CueBody.kind : CueBody → Nat
  | .source _ _ _ => 1
  | .lift _ _ => 2
  | .gMax _ _ => 3
  | .skew _ _ => 4
  | .mark _ => 5

/-- The code of a cue's target: the side code, or the mask of a MARK (spec/11 R176). -/
def CueBody.targetCode : CueBody → Nat
  | .mark ts => trackMask ts
  | b => b.target

/-- One cue comes before another in the list (spec/10 R157). -/
def Cue.before (a b : Cue) : Bool :=
  decide (a.position < b.position) ||
    (decide (a.position = b.position) &&
      (decide (a.body.target < b.body.target) ||
        (decide (a.body.target = b.body.target) && decide (a.body.kind < b.body.kind))))

/-- Two cues share position, target and kind (spec/10 R157). -/
def Cue.same (a b : Cue) : Bool :=
  decide (a.position = b.position) && decide (a.body.target = b.body.target) && decide (a.body.kind = b.body.kind)

/-- A cue inserted at its place in the order (spec/10 R157). -/
def cueInsert (c : Cue) : List Cue → List Cue
  | [] => [c]
  | d :: rest => if c.before d then c :: d :: rest else d :: cueInsert c rest

/-- The cues that satisfy `due` taken in list order: each applies, leaves the list and queues its CUE notice with the given origin
(spec/10 R159). -/
def State.takeCues (s : State) (due : Cue → Bool) (origin : Nat) (apply : Cue → State → State) : State :=
  (s.psc.cues.filter due).foldl (fun t c => (apply c t).notify (.cue c.body c.late) origin)
    { s with psc := { s.psc with cues := s.psc.cues.filter fun c => !due c } }

end Sys2Proof.Machine
end

