-- ==== Sys2Proof/Machine/Defects.lean ====
section
/-! DEFINITION. The defect list (spec/05): entries and their order, reports and contributions, merging, settling, the full list,
the splice query, and the taking of entries. -/

namespace Sys2Proof.Machine

/-! ### Entries -/

/-- The rank of a kind, from 1 for LOST to 6 for MARK; it is also the kind's code (spec/05 R75, spec/11 R176). -/
def DefectKind.rank : DefectKind → Nat
  | .lost => 1
  | .splice => 2
  | .refloss => 3
  | .dropout => 4
  | .clip => 5
  | .mark => 6

/-- The key of an entry as its place in the key order: side A, side B, then streams 0 to 7 (spec/05 R74, R75). -/
def DefectEntry.key (e : DefectEntry) : Nat :=
  match e.stream with
  | some i => 2 + i.val
  | none => if trackEmpty (trackInter e.tracks (sideTracks .A)) then 1 else 0

/-- The end of an entry: start + length - 1, and the start of a MARK (spec/05 R74). -/
def DefectEntry.last (e : DefectEntry) : Nat :=
  e.start + (e.length - 1)

/-- Entry states as READ_STATUS and TAKE_DEFECTS see them (spec/05 R80, R81). -/
def DefectEntry.isOpen (e : DefectEntry) : Bool :=
  !e.openBy.isEmpty

/-- The entry is SETTLED (spec/05 R81). -/
def DefectEntry.isSettled (e : DefectEntry) : Bool :=
  e.openBy.isEmpty && e.settled

/-- The entry is CLOSED: no contribution links to it and it is not SETTLED (spec/05 R80). -/
def DefectEntry.isClosed (e : DefectEntry) : Bool :=
  e.openBy.isEmpty && !e.settled

/-- One entry comes before another: by start, then kind rank, then key (spec/05 R75). -/
def DefectEntry.before (a b : DefectEntry) : Bool :=
  decide (a.start < b.start) ||
    (decide (a.start = b.start) &&
      (decide (a.kind.rank < b.kind.rank) || (decide (a.kind = b.kind) && decide (a.key < b.key))))

/-- Two entries of one kind and one key that overlap or abut, or two MARKs of one key at one start (spec/05 R74, R78, R82). -/
def DefectEntry.meets (a b : DefectEntry) : Bool :=
  decide (a.kind = b.kind) && decide (a.key = b.key) &&
    (if a.kind = .mark then decide (a.start = b.start)
     else decide (a.start ≤ b.last + 1) && decide (b.start ≤ a.last + 1))

/-- The lesser of two depths, where present (spec/05 R79). -/
def leastDepth : Option Nat → Option Nat → Option Nat
  | some a, some b => some (min a b)
  | some a, none => some a
  | none, b => b

/-- The rank of a disposition by how bad it is (spec/05 R79). -/
def Disposition.badness : Disposition → Nat
  | .lifted => 0
  | .limited => 1
  | .unlifted => 2

/-- The worse of two dispositions (spec/05 R79, spec/04 R66). -/
def Disposition.worse (a b : Disposition) : Disposition :=
  if a.badness < b.badness then b else a

/-- The worse of two dispositions, where present. -/
def worstDisposition : Option Disposition → Option Disposition → Option Disposition
  | some a, some b => some (a.worse b)
  | some a, none => some a
  | none, b => b

/-- All reporters, in the order contributions are listed (spec/05 R77). -/
def Reporter.list : List Reporter :=
  Track.list.map .clip ++ Track.list.map .dropout ++ Side.list.map .lossSide ++ streamList.map .lossStream

/-- The contributions of two entries together (spec/05 R77). -/
def openUnion (a b : List Reporter) : List Reporter :=
  Reporter.list.filter fun r => decide (r ∈ a) || decide (r ∈ b)

/-- The merge of two entries of one kind and key; it is neither carried nor settled (spec/05 R79). -/
def DefectEntry.merge (a b : DefectEntry) : DefectEntry where
  kind := a.kind
  tracks := trackUnion a.tracks b.tracks
  start := min a.start b.start
  length := if a.kind = .mark then 0 else max a.last b.last - min a.start b.start + 1
  depth := leastDepth a.depth b.depth
  disposition := worstDisposition a.disposition b.disposition
  stream := a.stream
  untimed := a.untimed || b.untimed
  carried := false
  settled := false
  openBy := openUnion a.openBy b.openBy

/-- An entry inserted at its place in the order (spec/05 R75). -/
def defectInsert (e : DefectEntry) : List DefectEntry → List DefectEntry
  | [] => [e]
  | d :: rest => if e.before d then e :: d :: rest else d :: defectInsert e rest

/-- An entry with every entry it meets merged into it, at the place its start gives (spec/05 R78). -/
def absorb (e : DefectEntry) (es : List DefectEntry) : List DefectEntry :=
  defectInsert ((es.filter e.meets).foldl .merge e) (es.filter fun d => !e.meets d)

/-! ### Settling -/

/-- The settling limit: the least settled index of the enabled sides minus 16; with no side enabled, w minus 16 while capture is
in progress and E after it (spec/05 R81). -/
def State.settlingLimit (s : State) : Int :=
  let indices := (Track.list.filter fun t => (s.lvm.get t).monitored).map fun t => ((s.lvm.get t).settled : Int)
  match indices with
  | [] => match s.crg.e with
    | some e => e
    | none => (s.crg.w : Int) - 16
  | i :: rest => rest.foldl min i - 16

/-- Every CLOSED entry whose end lies below the limit becomes SETTLED (spec/05 R81). -/
def DefectList.settle (limit : Int) (d : DefectList) : DefectList :=
  { d with entries := d.entries.map fun e => if e.isClosed && decide ((e.last : Int) < limit) then { e with settled := true } else e }

/-! ### Reports -/

/-- A new-span report; `openAs` is the reporter of a span reported OPEN, absent for a CLOSED one (spec/05 R76). -/
structure SpanReport where
  kind : DefectKind
  tracks : TrackSet
  start : Nat
  length : Nat
  depth : Option Nat
  disposition : Option Disposition
  stream : Option (Fin 8)
  untimed : Bool
  openAs : Option Reporter
  deriving DecidableEq, Repr

/-- An extend or close report of a reporter's open span: the range as start and length, or none for a close that leaves the range
as it stands (spec/01 R15), with the depth and disposition as they stand (spec/05 R76, R80). -/
structure GrowthReport where
  reporter : Reporter
  range : Option (Nat × Nat)
  depth : Option Nat
  disposition : Option Disposition
  closes : Bool
  deriving DecidableEq, Repr

/-- A report to the defect list. -/
inductive Report where
  | span (r : SpanReport)
  | growth (r : GrowthReport)
  deriving DecidableEq, Repr

/-- A report of no stream that names tracks of both sides is split by side; an empty track set is reported nowhere (spec/05
R76). That side A's half is taken before side B's is the model's choice (log 6). -/
def SpanReport.parts (r : SpanReport) : List SpanReport :=
  match r.stream with
  | some _ => if trackEmpty r.tracks then [] else [r]
  | none =>
    (Side.list.map fun x => { r with tracks := trackInter r.tracks (sideTracks x) }).filter fun p => !trackEmpty p.tracks

/-- The entry a new-span report makes (spec/05 R78). -/
def SpanReport.entry (r : SpanReport) : DefectEntry where
  kind := r.kind
  tracks := r.tracks
  start := r.start
  length := r.length
  depth := r.depth
  disposition := r.disposition
  stream := r.stream
  untimed := r.untimed
  carried := false
  settled := false
  openBy := r.openAs.toList

/-- One more span of a kind not stored; a count stays at 65,535 (spec/05 R83). -/
def KindCounts.bump (c : KindCounts) (k : DefectKind) : KindCounts :=
  let up (n : Nat) : Nat := if n < 65535 then n + 1 else n
  match k with
  | .lost => { c with lost := up c.lost }
  | .splice => { c with splice := up c.splice }
  | .refloss => { c with refloss := up c.refloss }
  | .dropout => { c with dropout := up c.dropout }
  | .clip => { c with clip := up c.clip }
  | .mark => { c with mark := up c.mark }

/-- A reporter's old contribution ends without a close report, because a new one replaces it (spec/05 R77). -/
def DefectList.unlink (d : DefectList) (r : Reporter) : DefectList :=
  { d with
    entries := d.entries.map fun e => { e with openBy := e.openBy.filter fun q => decide (q ≠ r) }
    unlistedBy := d.unlistedBy.filter fun q => decide (q ≠ r) }

/-- The list without the old contribution of an OPEN report's reporter. -/
def DefectList.unlinkOption (d : DefectList) : Option Reporter → DefectList
  | some r => d.unlink r
  | none => d

/-- One part of a new-span report: merged, inserted, or not stored because 512 entries are held (spec/05 R78, R83). The flag
tells whether the refusal queues a DEFECTS_FULL notice. -/
def DefectList.newSpan (d : DefectList) (r : SpanReport) : DefectList × Bool :=
  let d' := d.unlinkOption r.openAs
  if d'.entries.any r.entry.meets || decide (d'.entries.length < Config.defectEntries) then
    ({ d' with entries := absorb r.entry d'.entries }, false)
  else
    ({ d' with
        unlistedBy := openUnion d'.unlistedBy r.openAs.toList
        unlisted := d'.unlisted.bump r.kind
        fullArmed := false }, d'.fullArmed)

/-- An entry whose range is the union of its range and a reported one (spec/05 R80). -/
def DefectEntry.stretch (e : DefectEntry) : Option (Nat × Nat) → DefectEntry
  | none => e
  | some (start, length) =>
    { e with start := min e.start start, length := max e.last (start + (length - 1)) - min e.start start + 1 }

/-- An extend or close report applied to the entry its contribution links (spec/05 R80); one whose contribution is unlisted or
absent is discarded, and a close report ends the contribution (spec/05 R77). -/
def DefectList.grow (d : DefectList) (r : GrowthReport) : DefectList :=
  if r.reporter ∈ d.unlistedBy then
    if r.closes then { d with unlistedBy := d.unlistedBy.filter fun q => decide (q ≠ r.reporter) } else d
  else
    match d.entries.find? fun e => decide (r.reporter ∈ e.openBy) with
    | none => d
    | some e =>
      let grown : DefectEntry :=
        { e.stretch r.range with
          depth := leastDepth e.depth r.depth
          disposition := worstDisposition e.disposition r.disposition
          carried := false }
      let d' := { d with entries := absorb grown (d.entries.filter fun f => !decide (r.reporter ∈ f.openBy)) }
      if r.closes then d'.unlink r.reporter else d'

/-- The state with one part of a new-span report taken: the list changes, a first refusal queues DEFECTS_FULL with the capture
index as its origin (spec/05 R83), and closed entries below the limit settle (R81). -/
def State.takeSpan (s : State) (r : SpanReport) : State :=
  let out := s.dfl.newSpan r
  let t := { s with dfl := out.1.settle s.settlingLimit }
  if out.2 then t.notify (.defectsFull r.kind) s.crg.w else t

/-- The state with a report taken by the defect list. -/
def State.report (s : State) : Report → State
  | .span r => r.parts.foldl .takeSpan s
  | .growth r => { s with dfl := (s.dfl.grow r).settle s.settlingLimit }

/-- Reports taken in order. -/
def State.reports (s : State) (rs : List Report) : State :=
  rs.foldl .report s

/-- The settling test of every CLOSED entry, made when the limit rises (spec/05 R81). -/
def State.settleDefects (s : State) : State :=
  { s with dfl := s.dfl.settle s.settlingLimit }

/-! ### The splice query and the taking of entries -/

/-- Whether a SPLICE span overlaps the indices from `lo` to `hi` on a track of side `x`, among the entries held and those handed
out in this pass (spec/02 R23, spec/05 R85). -/
def DefectList.spliced (d : DefectList) (x : Side) (lo hi : Nat) : Bool :=
  (d.entries.any fun e =>
      decide (e.kind = .splice) && !trackEmpty (trackInter e.tracks (sideTracks x)) && decide (e.start ≤ hi) &&
        decide (lo ≤ e.last)) ||
    match d.takenSplice.get x with
    | some e => decide (lo ≤ e)
    | none => false

/-- The first 16 SETTLED entries in list order get their carried mark, and every other mark is clear; `n` is how many may still be
selected (spec/05 R84). -/
def carryFirst : Nat → List DefectEntry → List DefectEntry
  | _, [] => []
  | n, e :: rest =>
    if e.isSettled && decide (0 < n) then { e with carried := true } :: carryFirst (n - 1) rest
    else { e with carried := false } :: carryFirst n rest

/-- The taken-splice end of side `x` after the entries of `es` have been taken (spec/05 R85). -/
def raiseTaken (x : Side) (old : Option Nat) (es : List DefectEntry) : Option Nat :=
  es.foldl (fun acc e =>
    if e.kind = .splice ∧ trackEmpty (trackInter e.tracks (sideTracks x)) = false then
      some (match acc with
        | some a => max a e.last
        | none => e.last)
    else acc) old

/-- The carried entries leave the list; removing at least one re-arms the full-notice flag (spec/05 R83, R84), and the
taken-splice ends rise (R85). -/
def DefectList.removeCarried (d : DefectList) : DefectList :=
  let gone := d.entries.filter (·.carried)
  { d with
    entries := d.entries.filter fun e => !e.carried
    fullArmed := d.fullArmed || !gone.isEmpty
    takenSplice := d.takenSplice.mapIdx fun x old => raiseTaken x old gone }

/-- Every carried mark cleared: the reply was cut short (spec/05 R84). -/
def DefectList.clearCarried (d : DefectList) : DefectList :=
  { d with entries := d.entries.map fun e => { e with carried := false } }

/-- Every entry SETTLED and every contribution dropped, at the entry into ENDED (spec/05 R86). -/
def DefectList.settleAll (d : DefectList) : DefectList :=
  { d with entries := d.entries.map fun e => { e with settled := true, openBy := [] }, unlistedBy := [] }

end Sys2Proof.Machine
end

