-- ==== Sys2Proof/Machine/Clip.lean ====
section
/-! DEFINITION. Decimation and clip detection in the converter front end (spec/01 R4, R9, R10). -/

namespace Sys2Proof.Machine

/-- The TTA sample of four wide samples: their mean rounded half up (spec/01 R4). -/
def decimate (q : Quad) : Int :=
  (q.w0.toInt + q.w1.toInt + q.w2.toInt + q.w3.toInt + 2) / 4

/-- The four wide samples of a track in wide order. -/
def Quad.samples (q : Quad) : List Int :=
  [q.w0.toInt, q.w1.toInt, q.w2.toInt, q.w3.toInt]

/-- A wide sample at full scale: absolute value 8,388,592 or more (spec/01 R9). -/
def fullScale (x : Int) : Bool :=
  decide (8388592 ≤ x.natAbs)

/-- The start of the CLIP span of a run whose first wide sample is `first` (spec/01 R9). -/
def clipStart (d : ClipDetector) : Nat :=
  d.first / 4

/-- A growth report of the detector's span through wide sample `v` (spec/01 R9, R10). -/
def clipGrowth (t : Track) (d : ClipDetector) (v : Nat) (closes : Bool) : Report :=
  .growth ⟨.clip t, some (clipStart d, v / 4 - clipStart d + 1), none, none, closes⟩

/-- The end of a run: a reported span is closed at the run's last full-scale sample, a shorter run is forgotten (spec/01 R10). -/
def clipEnd (t : Track) (d : ClipDetector) : ClipDetector × List Report :=
  (.idle, if d.span then [clipGrowth t d d.last true] else [])

/-- One wide sample of index `u` at a track's clip detector (spec/01 R9, R10). -/
def clipSample (t : Track) (u : Nat) (x : Int) (d : ClipDetector) : ClipDetector × List Report :=
  if fullScale x then
    match d.run with
    | 0 => (⟨1, u, u, false⟩, [])
    | 1 => ({ d with run := 2, last := u }, [])
    | 2 => ({ d with run := 3, last := u }, [])
    | 3 =>
      ({ d with run := 4, last := u, span := true },
        [.span ⟨.clip, oneTrack t, clipStart d, u / 4 - clipStart d + 1, none, none, none, false, some (.clip t)⟩])
    | _ => ({ d with last := u }, if d.last / 4 < u / 4 then [clipGrowth t d u false] else [])
  else clipEnd t d

/-- The four wide samples of group `n` at one detector, in wide order (spec/01 R3). -/
def clipGroup (t : Track) (n : Nat) (q : Quad) (d : ClipDetector) : ClipDetector × List Report :=
  let a := clipSample t (4 * n) q.w0.toInt d
  let b := clipSample t (4 * n + 1) q.w1.toInt a.1
  let c := clipSample t (4 * n + 2) q.w2.toInt b.1
  let e := clipSample t (4 * n + 3) q.w3.toInt c.1
  (e.1, a.2 ++ b.2 ++ c.2 ++ e.2)

/-- The detector of track `t` set and its reports taken. -/
def State.putClip (s : State) (t : Track) (out : ClipDetector × List Report) : State :=
  { s with cfe := { s.cfe with clip := s.cfe.clip.set t out.1 } }.reports out.2

/-- The group of capture index `n` at the clip detector of every watched track (spec/01 R3, R8). The spec orders the tracks nowhere;
tracks 1 to 4 in turn, each with its four samples, is the model's choice (log 6). -/
def State.clipTake (s : State) (n : Nat) (g : WideGroup) : State :=
  (trackList s.cfe.watched).foldl (fun u t => u.putClip t (clipGroup t n (g.get t) (u.cfe.clip.get t))) s

/-- The end of capture at the clip detectors: every run ends (spec/01 R10), tracks 1 to 4 in turn (log 6). -/
def State.clipFinish (s : State) : State :=
  (trackList s.cfe.watched).foldl (fun u t => u.putClip t (clipEnd t (u.cfe.clip.get t))) s

end Sys2Proof.Machine
end

