-- ==== Sys2Proof/Machine/Flags.lean ====
section
/-! DEFINITION. The flag computations: the block flags a frame takes from its speed-table entry, the classes of its inputs and the
loss mark (spec/07 R114 to R116). -/

namespace Sys2Proof.Machine

/-- The lock flags of a frame, from the lock state after close of the entry it used (spec/07 R114). -/
def lockFlags (l : LockState) : FlagSet :=
  match l with
  | .locked => .empty
  | .hold => { FlagSet.empty with held := true }
  | .search => { FlagSet.empty with unlocked := true }
  | .confirm => { FlagSet.empty with unlocked := true }
  | .lapsed => { FlagSet.empty with unlocked := true }
  | .off => { FlagSet.empty with unlocked := true }

/-- The flags of a frame: the lock flag, LIFTED and LIMITED from the classes of every input read, LOST from the loss mark (spec/07
R114 to R116). -/
def frameFlags (l : LockState) (classes : List TickClass) (loss : Bool) : FlagSet :=
  { lockFlags l with
    lifted := classes.any fun c => decide (c = .lifted)
    limited := classes.any fun c => decide (c = .limited)
    lost := loss }

end Sys2Proof.Machine
end

