-- ==== Sys2Proof/Machine/Level.lean ====
section
/-! DEFINITION. The level monitor (spec/04): ticks and envelopes, the running level, dropout spans, lift gains, the settled index,
and the LIFT and GMAX cues. -/

namespace Sys2Proof.Machine

/-! ### Deciding ticks -/

/-- The unclamped gain of a tick of envelope `e` in a span of frozen level `level` (spec/04 R64). -/
def unclampedGain (level e : Nat) : Nat :=
  4096 * level / max e 1

/-- The depth of a tick inside a span (spec/04 R63). -/
def tickDepth (level e : Nat) : Nat :=
  clampNat (4096 * e / level) 0 4095

/-- A record decided OUTSIDE (spec/04 R64). -/
def TickRecord.outside (r : TickRecord) : TickRecord :=
  { r with membership := .outside, tickClass := some .outside, gain := some 4096 }

/-- The class of a tick INSIDE a span of frozen level `level` (spec/04 R64). -/
def TickRecord.classInside (r : TickRecord) (level : Nat) : TickClass :=
  if !r.lift then .unlifted
  else if unclampedGain level r.envelope ≤ r.gMax then .lifted
  else .limited

/-- The gain of a tick INSIDE a span of frozen level `level` (spec/04 R64). -/
def TickRecord.gainInside (r : TickRecord) (level : Nat) : Nat :=
  match r.classInside level with
  | .outside => 4096
  | .unlifted => 4096
  | .lifted => max 4096 (unclampedGain level r.envelope)
  | .limited => r.gMax

/-- A record decided INSIDE a span of frozen level `level` (spec/04 R64). -/
def TickRecord.inside (r : TickRecord) (level : Nat) : TickRecord :=
  { r with membership := .inside, tickClass := some (r.classInside level), gain := some (r.gainInside level) }

/-- What an INSIDE tick of a class does to its span's disposition (spec/04 R66). -/
def TickClass.disposition : TickClass → Disposition
  | .outside => .lifted
  | .unlifted => .unlifted
  | .lifted => .lifted
  | .limited => .limited

/-- The record of tick `t`, while its slot holds it (spec/04 R58). -/
def tickRecord (records : List (Nat × TickRecord)) (t : Nat) : Option TickRecord :=
  match slotFind records (t % Config.tickSlots) with
  | some r => if r.tick = t then some r else none
  | none => none

/-- A record written into its slot (spec/04 R58). -/
def putRecord (records : List (Nat × TickRecord)) (r : TickRecord) : List (Nat × TickRecord) :=
  slotPut records (r.tick % Config.tickSlots) r

/-- Tick `t` decided OUTSIDE (spec/04 R60). -/
def Monitor.decideOutside (m : Monitor) (t : Nat) : Monitor :=
  match tickRecord m.records t with
  | some r => { m with records := putRecord m.records r.outside }
  | none => m

/-- A span with a tick decided INSIDE it: the tick's depth enters the span's and its class the disposition (spec/04 R63, R66). -/
def Span.takeTick (p : Span) (r : TickRecord) : Span :=
  { p with
    depth := min p.depth (tickDepth p.level r.envelope)
    disposition := p.disposition.worse (r.classInside p.level).disposition }

/-- Tick `t` decided INSIDE the open span: its gain and class are set, its depth enters the span's and its class the disposition
(spec/04 R60, R63, R64, R66). -/
def Monitor.decideInside (m : Monitor) (t : Nat) : Monitor :=
  match m.span, tickRecord m.records t with
  | some p, some r =>
    { m with records := putRecord m.records (r.inside p.level), span := some (p.takeTick r) }
  | _, _ => m

/-- The ticks from `lo` up to `hi`, both included. -/
def tickRange (lo hi : Nat) : List Nat :=
  (List.range (hi + 1 - lo)).map (lo + ·)

/-! ### Reports of a span (spec/04 R69) -/

/-- The reported length of a span through its last confirmed tick (spec/04 R69). -/
def Span.length (p : Span) : Nat :=
  Config.tickLength * (p.last - p.first + 1)

/-- The new-span report of track `t` (spec/04 R61, R69). -/
def newSpanReport (t : Track) (p : Span) : Report :=
  .span ⟨.dropout, oneTrack t, Config.tickLength * p.first, p.length, some p.depth, some p.disposition, none, false,
    some (.dropout t)⟩

/-- An extend or close report of track `t` with a given length (spec/04 R69). -/
def spanGrowth (t : Track) (p : Span) (length : Nat) (closes : Bool) : Report :=
  .growth ⟨.dropout t, some (Config.tickLength * p.first, length), some p.depth, some p.disposition, closes⟩

/-- The report of the open span, if there is one. -/
def Monitor.spanReports (m : Monitor) (make : Span → Report) : List Report :=
  match m.span with
  | some p => [make p]
  | none => []

/-! ### The detector (spec/04 R60) -/

/-- The record of tick `t` as its completion writes it, PENDING until decided (spec/04 R58). -/
def Monitor.newRecord (m : Monitor) (t : Nat) : TickRecord :=
  ⟨t, m.peak, m.lift, m.gMax, .pending, none, none⟩

/-- The running level takes an envelope (spec/04 R59): the floor is toward minus infinity. -/
def levelAfter (level e : Nat) : Nat :=
  ((level : Int) + ((e : Int) - level) / 64).toNat

/-- A tick is low against the running level (spec/04 R60). -/
def Monitor.low (m : Monitor) (g : SideSettings) : Bool :=
  decide (m.peak * 4096 < m.level * g.dThr)

/-- A tick is clear against the frozen level of the open span (spec/04 R60). -/
def Monitor.clear (m : Monitor) (g : SideSettings) : Bool :=
  match m.span with
  | some p => decide (p.level * g.rThr ≤ m.peak * 4096)
  | none => true

/-- The tick counted toward a run (spec/04 R60). -/
def Monitor.countRun (m : Monitor) (state : SpanState) (t : Nat) : Monitor :=
  { m with state := state, runCount := m.runCount + 1, runFirst := if m.runCount = 0 then t else m.runFirst }

/-- A span opens with the run whose first tick is `first`, at the completion of tick `t` (spec/04 R61). -/
def Monitor.openSpan (m : Monitor) (track : Track) (first t : Nat) : Monitor × List Report :=
  let started : Monitor :=
    { m with state := .open, runCount := 0, span := some ⟨first, t, m.level, 4095, .lifted⟩ }
  let opened := (tickRange first t).foldl .decideInside started
  (opened, opened.spanReports (newSpanReport track))

/-- A span closes with its end at its last confirmed tick; the ticks from `first` to `t` are OUTSIDE (spec/04 R62). -/
def Monitor.closeSpan (m : Monitor) (track : Track) (first t : Nat) : Monitor × List Report :=
  let out := (tickRange first t).foldl .decideOutside m
  ({ out with state := .quiet, runCount := 0, span := none }, m.spanReports fun p => spanGrowth track p p.length true)

/-- The ticks from `first` to `t` are decided INSIDE the open span, whose last confirmed tick becomes `t` (spec/04 R60). -/
def Monitor.extendSpan (m : Monitor) (track : Track) (first t : Nat) : Monitor × List Report :=
  let decided := (tickRange first t).foldl .decideInside m
  let grown : Monitor := { decided with state := .open, runCount := 0, span := decided.span.map fun p => { p with last := t } }
  (grown, grown.spanReports fun p => spanGrowth track p p.length false)

/-- The detector at the completion of tick `t`, whose record is written and whose envelope is the peak (spec/04 R59, R60). -/
def Monitor.detect (m : Monitor) (g : SideSettings) (track : Track) (t : Nat) : Monitor × List Report :=
  if t < 64 then
    ({ m.decideOutside t with level := if t = 0 then m.peak else levelAfter m.level m.peak }, [])
  else match m.state with
    | .quiet =>
      if m.low g then
        if g.debounce = 1 then m.openSpan track t t else (m.countRun .opening t, [])
      else ({ m.decideOutside t with level := levelAfter m.level m.peak }, [])
    | .opening =>
      if m.low g then
        if m.runCount + 1 = g.debounce then m.openSpan track m.runFirst t else (m.countRun .opening t, [])
      else
        ({ (tickRange m.runFirst t).foldl .decideOutside m with
            state := .quiet, runCount := 0, level := levelAfter m.level m.peak }, [])
    | .open =>
      if m.clear g then
        if g.debounce = 1 then m.closeSpan track t t else (m.countRun .closing t, [])
      else m.extendSpan track t t
    | .closing =>
      if m.clear g then
        if m.runCount + 1 = g.debounce then m.closeSpan track m.runFirst t else (m.countRun .closing t, [])
      else m.extendSpan track m.runFirst t

/-- The settled index after the completion of tick `t` (spec/04 R67). -/
def settledAfter (t debounce : Nat) : Nat :=
  Config.tickLength * (t + 1 - debounce)

/-- The completion of the open tick of a track (spec/04 R57 to R60, R67). -/
def Monitor.completeTick (m : Monitor) (g : SideSettings) (track : Track) : Monitor × List Report :=
  let t := m.ticks
  let out := ({ m with records := putRecord m.records (m.newRecord t) }).detect g track t
  ({ out.1 with
      ticks := t + 1, peak := 0, settled := settledAfter t g.debounce, boundary := some (Config.tickLength * (t + 1)) }, out.2)

/-- One step of the detect filter of a track. While every input so far has been 0 the memory is 0 and the value is 0 (spec/04
R57). -/
def detectFilter (band : DetectBand) (track : Track) (memory : Nat) (sample : Int) : Nat × Int :=
  if memory = 0 ∧ sample = 0 then (0, 0)
  else
    let out := Config.detectFilter band track memory sample
    (out.1, out.2.toInt)

/-- A TTA sample taken by a track: filtered, and its absolute value entered into the open tick's envelope (spec/04 R57). -/
def Monitor.sample (m : Monitor) (g : SideSettings) (track : Track) (x : Int) : Monitor :=
  let f := detectFilter g.detectBand track m.memory x
  { m with memory := f.1, peak := max m.peak f.2.natAbs }

/-- The sample of capture index `n` at one track, with the completion of its tick when it is the tick's last (spec/04 R57). -/
def Monitor.take (m : Monitor) (g : SideSettings) (track : Track) (n : Nat) (x : Int) : Monitor × List Report :=
  let s := m.sample g track x
  if n % Config.tickLength = Config.tickLength - 1 then s.completeTick g track else (s, [])

/-! ### The state's level monitor -/

/-- The monitor of a track set and its reports taken. -/
def State.putMonitor (s : State) (t : Track) (out : Monitor × List Report) : State :=
  { s with lvm := s.lvm.set t out.1 }.reports out.2

/-- The effect of a LIFT or GMAX cue on both tracks of its side (spec/04 R70). -/
def applyLevelCue (c : Cue) (s : State) : State :=
  match c.body with
  | .lift x on =>
    { s with lvm := s.lvm.mapIdx fun t m => if t.side = x then { m with lift := on } else m }
  | .gMax x v =>
    { s with lvm := s.lvm.mapIdx fun t m => if t.side = x then { m with gMax := v } else m }
  | .source _ _ _ => s
  | .skew _ _ => s
  | .mark _ => s

/-- A LIFT or GMAX cue of side `x` is due at tick boundary `b` (spec/04 R70, spec/10 R158). -/
def levelDue (x : Side) (b : Nat) (c : Cue) : Bool :=
  match c.body with
  | .lift y _ => decide (y = x) && decide (c.position ≤ b)
  | .gMax y _ => decide (y = x) && decide (c.position ≤ b)
  | .source _ _ _ => false
  | .skew _ _ => false
  | .mark _ => false

/-- The LIFT and GMAX cues of side `x` taken at tick boundary `b` (spec/04 R70). -/
def State.takeLevelCues (s : State) (x : Side) (b : Nat) : State :=
  s.takeCues (levelDue x b) b applyLevelCue

/-- Side `x`'s part of the group event for capture index `n`: both tracks take their sample, and after a tick's completion on both
the cues due at the boundary are taken (spec/04 R57, R70). -/
def State.levelSide (s : State) (x : Side) (n : Nat) (y : PerTrack Int) : State :=
  if (s.lvm.get x.left).monitored then
    let g := s.psc.pass.sides.get x
    let s1 := s.putMonitor x.left ((s.lvm.get x.left).take g x.left n (y.get x.left))
    let s2 := s1.putMonitor x.right ((s1.lvm.get x.right).take g x.right n (y.get x.right))
    if n % Config.tickLength = Config.tickLength - 1 then s2.takeLevelCues x (n + 1) else s2
  else s

/-- The group event at the level monitor (spec/01 R3, spec/04 R57). -/
def State.levelGroup (s : State) (n : Nat) (y : PerTrack Int) : State :=
  (s.levelSide .A n y).levelSide .B n y

/-! ### End of capture, abort, and pass boundaries -/

/-- The partial final tick of a capture of `e` indices, decided INSIDE when a span is open and else OUTSIDE (spec/04 R71, step 1).
The tick does not complete, so its record replaces none: the ring keeps tick t - 4096, which a draining side may still read (spec/04
R58, log 29). -/
def Monitor.partialTick (m : Monitor) (e : Nat) : Monitor :=
  if e % Config.tickLength = 0 then m
  else
    let r := m.newRecord m.ticks
    match m.span with
    | some p => { m with finalTick := some (r.inside p.level), span := some (p.takeTick r) }
    | none => { m with finalTick := some r.outside }

/-- A track's detector at the end of a capture of `e` indices (spec/04 R71). -/
def Monitor.finish (m : Monitor) (track : Track) (e : Nat) : Monitor × List Report :=
  let p := m.partialTick e
  let out : Monitor × List Report :=
    match m.state with
    | .quiet => (p, [])
    | .opening => ((tickRange m.runFirst (m.ticks - 1)).foldl .decideOutside p, [])
    | .open => (p, p.spanReports fun q => spanGrowth track q (e - Config.tickLength * q.first) true)
    | .closing =>
      let d := (tickRange m.runFirst (m.ticks - 1)).foldl .decideInside p
      (d, d.spanReports fun q => spanGrowth track q (e - Config.tickLength * q.first) true)
  ({ out.1 with state := .quiet, runCount := 0, span := none, settled := e + 16 }, out.2)

/-- The end of capture at every monitored track (spec/04 R71). -/
def State.levelFinish (s : State) (e : Nat) : State :=
  (Track.list.filter fun t => (s.lvm.get t).monitored).foldl (fun u t => u.putMonitor t ((u.lvm.get t).finish t e)) s

/-- A track's detector at an ABORT: an opening run is dropped, an open span closes at its last confirmed tick (spec/04 R72). That the ticks
of the dropped opening run stay PENDING, as R72 says of a closing run, and do not become OUTSIDE as in R71, is the model's choice (log
32). -/
def Monitor.abort (m : Monitor) (track : Track) : Monitor × List Report :=
  ({ m with state := .quiet, runCount := 0, span := none }, m.spanReports fun p => spanGrowth track p p.length true)

/-- An ABORT at every monitored track (spec/04 R72). -/
def State.levelAbort (s : State) : State :=
  (Track.list.filter fun t => (s.lvm.get t).monitored).foldl (fun u t => u.putMonitor t ((u.lvm.get t).abort t)) s

/-- A track's monitor as ARM, RESTART and line reset make it (spec/04 R73). -/
def Monitor.fresh (g : SideSettings) (monitored : Bool) : Monitor :=
  { monitored := monitored, lift := g.lift, gMax := g.gMax, memory := 0, level := 0, ticks := 0, peak := 0, state := .quiet
    runCount := 0, runFirst := 0, span := none, records := [], finalTick := none, settled := 0, boundary := none }

/-- A track's monitor at the entry into RUNNING: tick boundary 0 is reached (spec/04 R57, R73). -/
def Monitor.enterRunning (m : Monitor) : Monitor :=
  { m with
    memory := 0, level := 0, ticks := 0, peak := 0, state := .quiet, runCount := 0, runFirst := 0, span := none, records := []
    finalTick := none, settled := 0, boundary := if m.monitored then some 0 else none }

/-- The settled index of a side: the smaller of its two tracks' (spec/04 R67). -/
def State.sideSettled (s : State) (x : Side) : Nat :=
  min (s.lvm.get x.left).settled (s.lvm.get x.right).settled

/-- The record of tick `t` of a track: the partial final tick's, or that of its slot (spec/04 R58, R71). -/
def Monitor.record (m : Monitor) (t : Nat) : Option TickRecord :=
  match m.finalTick with
  | some r => if r.tick = t then some r else tickRecord m.records t
  | none => tickRecord m.records t

/-- The level monitor's answer to the resampler for index `n` of a track: gain and class (spec/04 R68). -/
def State.liftAt (s : State) (t : Track) (n : Int) : Nat × TickClass :=
  if n < 0 then (4096, .outside)
  else match s.crg.e with
    | some e => if (e : Int) ≤ n then (4096, .outside) else decided
    | none => decided
where
  /-- The decided record's gain and class. -/
  decided : Nat × TickClass :=
    match (s.lvm.get t).record (n.toNat / Config.tickLength) with
    | some r => (r.gain.getD 4096, r.tickClass.getD .outside)
    | none => (4096, .outside)

/-- The lifted value of a sample under a gain (spec/04 R65). -/
def lifted (x : Int) (gain : Nat) : Int :=
  saturate24 ((x * gain + 2048) / 4096)

end Sys2Proof.Machine
end

