-- ==== Sys2Proof/Machine/Codes.lean ====
section
/-! DEFINITION. The codes of section 11.8 (spec/11 R176) and of the reply statuses (R167), and the layouts of replies, block
headers, defect records and notice records. -/

namespace Sys2Proof.Machine

/-! ### Codes -/

/-- Side codes. -/
def sideCode : Side → Nat
  | .A => 0
  | .B => 1

/-- Side source codes. -/
def SideSource.code : SideSource → Nat
  | .none => 0
  | .biasL => 1
  | .biasR => 2
  | .biasBoth => 3
  | .deck => 4

/-- Pass state codes. -/
def PassState.code : PassState → Nat
  | .idle => 0
  | .armed => 1
  | .running => 2
  | .draining => 3
  | .ended => 4

/-- End cause codes; absent is 0. -/
def EndCause.code : EndCause → Nat
  | .stopped => 1
  | .endLine => 2
  | .stall => 3
  | .limit => 4
  | .aborted => 5

/-- The code of an end cause that may be absent. -/
def causeCode : Option EndCause → Nat
  | none => 0
  | some c => c.code

/-- Lock state codes. -/
def LockState.code : LockState → Nat
  | .off => 0
  | .search => 1
  | .confirm => 2
  | .locked => 3
  | .hold => 4
  | .lapsed => 5

/-- Disposition codes. -/
def Disposition.code : Disposition → Nat
  | .lifted => 1
  | .limited => 2
  | .unlifted => 3

/-- Stream source codes. -/
def StreamSource.code : StreamSource → Nat
  | .side .A _ _ => 0
  | .side .B _ _ => 1
  | .raw _ => 2

/-- Channels: bit 0 L and bit 1 R of a side, or the track mask. -/
def StreamSource.channelCode : StreamSource → Nat
  | .side _ l r => boolCode l + 2 * boolCode r
  | .raw ts => trackMask ts

/-- Format codes. -/
def SampleFormat.code : SampleFormat → Nat
  | .s16 => 0
  | .s24 => 1
  | .s32 => 2

/-- Line action codes. -/
def LineAction.code : LineAction → Nat
  | .none => 0
  | .tacho => 1
  | .start => 2
  | .stop => 3
  | .mark => 4
  | .splice => 5

/-- Edge codes. -/
def Edge.code : Edge → Nat
  | .rise => 0
  | .fall => 1
  | .both => 2

/-- Sticky flag codes. -/
def Sticky.code : Sticky → Nat
  | .disarmed => 0
  | .armed => 1
  | .tripped => 2

/-- Skew mode codes. -/
def SkewMode.code : SkewMode → Nat
  | .manual => 0
  | .auto => 1

/-- Detect band codes. -/
def DetectBand.code : DetectBand → Nat
  | .reference => 0
  | .programme => 1

/-- Reply status codes (spec/11 R167). -/
def Status.code : Status → Nat
  | .ok => 0x00
  | .adjusted => 0x01
  | .late => 0x02
  | .already => 0x08
  | .empty => 0x09
  | .notFound => 0x0A
  | .state => 0x10
  | .badValue => 0x11
  | .badKind => 0x12
  | .badLength => 0x13
  | .checkFailed => 0x14
  | .full => 0x15
  | .badSetup => 0x17

/-! ### Layouts -/

/-- One byte of a code. -/
def code1 (n : Nat) : List Byte :=
  bytesOfNat 1 n

/-- The flags byte of a block header: UNLOCKED, HELD, LIFTED, LIMITED, LOST, FINAL, PARTIAL, REVERSED from bit 0 (spec/11 R176). -/
def Block.flagCode (b : Block) : Nat :=
  boolCode b.flags.unlocked + 2 * boolCode b.flags.held + 4 * boolCode b.flags.lifted + 8 * boolCode b.flags.limited +
    16 * boolCode b.flags.lost + 32 * boolCode b.finalFlag + 64 * boolCode b.partialFlag + 128 * boolCode b.reversed

/-- The header fields before the block CRC (spec/11 R176). -/
def Block.headFields (b : Block) : List Byte :=
  code1 b.stream.val ++ code1 b.flagCode ++ bytesOfNat 2 b.frames ++ bytesOfNat 5 b.emit ++ bytesOfInt 5 b.order ++
    bytesOfNat 5 b.first ++ bytesOfNat 5 b.last ++ code1 b.source.code ++ code1 b.source.channelCode ++ code1 b.format.code

/-- The three pad bytes of a block header (spec/11 R176). -/
def headPad : List Byte :=
  [0, 0, 0]

/-- The block CRC: over the header less the CRC field, then the sample data (spec/08 R127). -/
def Block.check (b : Block) : BitVec 16 :=
  crc16 (b.headFields ++ headPad ++ b.data)

/-- The block record: the 32-byte header and the sample data (spec/08 R129, spec/11 R176). -/
def Block.record (b : Block) : List Byte :=
  b.headFields ++ bytesOfNat 2 b.crc.toNat ++ headPad ++ b.data

/-- A defect record, 20 bytes; TAKE_DEFECTS hands out SETTLED entries, whose state code is 2 (spec/11 R176). -/
def DefectEntry.record (e : DefectEntry) : List Byte :=
  code1 e.kind.rank ++ code1 (trackMask e.tracks) ++ code1 2 ++
    code1 (boolCode e.untimed + 2 * boolCode e.stream.isSome + 4 * boolCode e.depth.isSome) ++
    bytesOfNat 5 e.start ++ bytesOfNat 5 e.length ++ bytesOfNat 2 (e.depth.getD 0) ++
    code1 ((e.disposition.map (·.code)).getD 0) ++
    code1 (match e.stream with
      | some i => i.val
      | none => 255) ++ [0, 0]

/-- The two details of a notice: two bytes and four bytes (spec/11 R176). -/
def NoticeBody.details : NoticeBody → List Byte × List Byte
  | .pass st cause n => (bytesOfNat 2 st.code, code1 (causeCode cause) ++ code1 n ++ [0, 0])
  | .lock x st => (bytesOfNat 2 (sideCode x), bytesOfNat 4 st.code)
  | .line i high => (bytesOfNat 2 i.val, bytesOfNat 4 (boolCode high))
  | .stall begins i => (bytesOfNat 2 (boolCode (!begins)), bytesOfNat 4 i.val)
  | .lossSide x => (bytesOfNat 2 (sideCode x), bytesOfNat 4 Config.lostLength)
  | .lossStream i => (bytesOfNat 2 (0x10 + i.val), bytesOfNat 4 Config.lostLength)
  | .defectsFull k => (bytesOfNat 2 k.rank, bytesOfNat 4 Config.defectEntries)
  | .cue b late => (code1 b.kind ++ code1 b.targetCode, bytesOfNat 4 (boolCode late))

/-- Notice kind codes (spec/11 R176). -/
def NoticeBody.code : NoticeBody → Nat
  | .pass _ _ _ => 1
  | .lock _ _ => 2
  | .line _ _ => 3
  | .stall _ _ => 4
  | .lossSide _ => 5
  | .lossStream _ => 5
  | .defectsFull _ => 6
  | .cue _ _ => 7

/-- A notice record, 12 bytes (spec/11 R176). -/
def Notice.record (n : Notice) : List Byte :=
  code1 n.body.code ++ n.body.details.1 ++ n.body.details.2 ++ bytesOfNat 5 n.origin

/-- The bytes of a reply that its CRC covers: kind, status, length, payload (spec/11 R164, R165). -/
def Reply.body (r : Reply) : List Byte :=
  [r.kind] ++ code1 r.status.code ++ bytesOfNat 2 r.payload.length ++ r.payload

/-- The reply frame: 5Ah, the body, and the CRC (spec/11 R164, R176). -/
def Reply.frame (r : Reply) : List Byte :=
  [0x5A#8] ++ r.body ++ bytesOfNat 2 (crc16 r.body).toNat

/-- The layout of a SET_SIDE payload (spec/11 R176). -/
def sideBytes (x : Side) (g : SideSettings) : List Byte :=
  code1 (sideCode x) ++ code1 (boolCode g.enabled) ++ code1 g.source.code ++ bytesOfNat 2 g.pNom ++ bytesOfNat 2 g.tNom ++
    bytesOfNat 2 g.window ++ code1 g.speedWindow ++ code1 g.smoothing ++ code1 g.confirm ++ code1 g.holdLimit ++
    code1 g.acquire ++ code1 g.skewMode.code ++ code1 g.detectBand.code ++ bytesOfNat 2 g.dThr ++ bytesOfNat 2 g.rThr ++
    code1 g.debounce ++ code1 (boolCode g.lift) ++ bytesOfNat 2 g.gMax

/-- The layout of a SET_PASS payload (spec/11 R176). -/
def passBytes (p : PassSettings) : List Byte :=
  bytesOfNat 3 p.rate ++ code1 p.factor ++ code1 p.stallCount ++ code1 (boolCode p.stopOnStall) ++ bytesOfNat 2 p.spliceLead ++
    bytesOfNat 2 p.spliceGuard ++ code1 p.highWater ++ code1 (boolCode p.noticeAttention)

/-- The layout of a SET_STREAM payload (spec/11 R176). -/
def streamBytes (i : Fin 8) (d : Descriptor) : List Byte :=
  code1 i.val ++ code1 (boolCode d.enabled) ++ code1 d.source.code ++ code1 d.source.channelCode ++ code1 d.format.code ++
    bytesOfNat 2 d.framesPerBlock

/-- The layout of a SET_LINE payload (spec/11 R176). -/
def lineBytes (i : Fin 6) (g : LineSetting) : List Byte :=
  code1 i.val ++ code1 g.action.code ++ code1 g.edge.code ++ bytesOfNat 2 g.debounce ++ code1 (boolCode g.notice)

/-- The four value bytes of a cue; bytes its kind does not use are 00h (spec/11 R176, log 13). -/
def CueBody.valueBytes : CueBody → List Byte
  | .source _ s none => code1 s.code ++ [0, 0, 0]
  | .source _ s (some p) => code1 s.code ++ [1] ++ bytesOfNat 2 p
  | .lift _ on => code1 (boolCode on) ++ [0, 0, 0]
  | .gMax _ v => bytesOfNat 2 v ++ [0, 0]
  | .skew _ v => bytesOfInt 1 v ++ [0, 0, 0]
  | .mark _ => [0, 0, 0, 0]

/-- The layout of a POST_CUE payload (spec/11 R176). -/
def cueBytes (c : Cue) : List Byte :=
  bytesOfNat 5 c.position ++ code1 c.body.kind ++ code1 c.body.targetCode ++ c.body.valueBytes

end Sys2Proof.Machine
end

