-- ==== Sys2Proof/Machine/Streams.lean ====
section
/-! DEFINITION. The stream assembler and the output queue (spec/08): sample formats, assembly buffers, sealing, end marks, slot
arbitration and the raw streams' reading of the rings. -/

namespace Sys2Proof.Machine

/-! ### Sample formats and slots -/

/-- The value sent for a sample in a format (spec/08 R124). -/
def SampleFormat.value (f : SampleFormat) (y : Int) : Int :=
  match f with
  | .s16 => saturate16 ((y + 128) / 256)
  | .s24 => y
  | .s32 => y * 256

/-- Bytes per sample of a format (spec/08 R124). -/
def SampleFormat.width : SampleFormat → Nat
  | .s16 => 2
  | .s24 => 3
  | .s32 => 4

/-- The bytes of one sample in a format, most significant first (spec/08 R124). -/
def SampleFormat.bytes (f : SampleFormat) (y : Int) : List Byte :=
  bytesOfInt f.width (f.value y)

/-- The slot of a frame in a restored stream: L before R, as its channels name (spec/07 R109, spec/08 R124). -/
def frameSlot (f : SampleFormat) (left right : Bool) (l r : Int) : List Byte :=
  (if left then f.bytes l else []) ++ (if right then f.bytes r else [])

/-- The slot of a sample group in a raw stream: the mask's tracks in ascending order (spec/08 R122, R124). -/
def groupSlot (f : SampleFormat) (tracks : TrackSet) (c : CaptureRing) (n : Nat) : List Byte :=
  (trackList tracks).flatMap fun t => f.bytes (c.read t n)

/-- The flags of two sets (spec/08 R121). -/
def FlagSet.union (a b : FlagSet) : FlagSet :=
  ⟨a.unlocked || b.unlocked, a.held || b.held, a.lifted || b.lifted, a.limited || b.limited, a.lost || b.lost⟩

/-! ### Sealing (spec/08 R125 to R127) -/

/-- The stream takes side B's frames, which its blocks carry in reverse order (spec/07 R112, spec/08 R121). -/
def StreamSource.isB : StreamSource → Bool
  | .side .B _ _ => true
  | .side .A _ _ => false
  | .raw _ => false

/-- The slots of a block in slot order: production order for side A and raw blocks, its reverse for side B (spec/07 R111, R112). -/
def slotOrder (source : StreamSource) (buffer : List (List Byte)) : List (List Byte) :=
  if source.isB then buffer.reverse else buffer

/-- The block a stream's buffer makes when it is sealed; `final` says that it is the stream's last (spec/08 R125, R126). -/
def sealBlock (i : Fin 8) (d : Descriptor) (s : Stream) (final : Bool) (e : Nat) : Block :=
  let fill := s.buffer.length
  let b : Block :=
    { stream := i, source := d.source, flags := s.flags, finalFlag := final
      partialFlag := final && decide (fill < d.framesPerBlock), reversed := d.source.isB, frames := fill, emit := s.emit
      order := if d.source.isB then -(s.emit : Int) else s.emit, first := if fill = 0 then e else s.first
      last := if fill = 0 then e else s.last, format := d.format, crc := 0#16
      data := (slotOrder d.source s.buffer).flatten }
  { b with crc := b.check }

/-- A stream after its block has been sealed (spec/08 R125, R128). -/
def Stream.afterSeal (s : Stream) (next : StreamState) : Stream :=
  { s with state := next, buffer := [], emit := s.emit + 1, first := 0, last := 0, flags := .empty }

/-- Stream `i` seals its block into the queue and becomes `next` (spec/08 R128). -/
def State.sealStream (s : State) (i : Fin 8) (final : Bool) (next : StreamState) : State :=
  let st := s.sas.get i
  { s with
    oq := { s.oq with blocks := s.oq.blocks ++ [sealBlock i (s.psc.pass.streams.get i) st final (s.crg.e.getD 0)] }
    sas := s.sas.set i (st.afterSeal next) }

/-- A stream in WAITING or FINAL_WAIT (spec/08 R120). -/
def Stream.waits (s : Stream) : Bool :=
  decide (s.state = .waiting) || decide (s.state = .finalWait)

/-- The streams in WAITING or FINAL_WAIT, lowest number first (spec/08 R128, R132). -/
def State.waiting (s : State) : List (Fin 8) :=
  streamList.filter fun i => (s.sas.get i).waits

/-- The queue has a slot for a block completed now: one that no waiting stream has been or is to be granted (spec/08 R128, log 14). -/
def State.slotFree (s : State) : Bool :=
  decide (s.oq.blocks.length + s.waiting.length < Config.queueBlocks)

/-- Stream `i`'s buffer is full: the block enters the queue, or the stream waits (spec/08 R120, R128). -/
def State.completeBlock (s : State) (i : Fin 8) : State :=
  if s.slotFree then s.sealStream i false .filling
  else { s with sas := s.sas.set i { s.sas.get i with state := .waiting } }

/-- A slot added to stream `i`'s buffer with its index and flags, and the block completed when the buffer is then full (spec/08
R120, R121, R122). -/
def State.addSlot (s : State) (i : Fin 8) (slot : List Byte) (index : Nat) (flags : FlagSet) : State :=
  let st := s.sas.get i
  let st' := { st with
    buffer := st.buffer ++ [slot], first := if st.buffer = [] then index else st.first, last := index
    flags := st.flags.union flags }
  let t := { s with sas := s.sas.set i st' }
  if st'.buffer.length = (s.psc.pass.streams.get i).framesPerBlock then t.completeBlock i else t

/-- Stream `i`'s end mark (spec/08 R120, R126). -/
def State.endMark (s : State) (i : Fin 8) : State :=
  match (s.sas.get i).state with
  | .off => s
  | .filling =>
    if s.slotFree then s.sealStream i true .done
    else { s with sas := s.sas.set i { s.sas.get i with state := .finalWait } }
  | .waiting => { s with sas := s.sas.set i { s.sas.get i with state := .finalWait } }
  | .finalWait => s
  | .done => s

/-- End marks handed to several streams in order. -/
def State.endMarks (s : State) (is : List (Fin 8)) : State :=
  is.foldl .endMark s

/-- The restored streams of side `x` in the pass, in ascending order (spec/07 R109). -/
def State.restoredStreams (s : State) (x : Side) : List (Fin 8) :=
  streamList.filter (s.restores x)

/-- The stream that takes the next slot freed: the lowest-numbered waiting stream that holds no grant (spec/08 R128). -/
def State.nextGrantee (s : State) : Option (Fin 8) :=
  s.waiting.find? fun i => decide (i ∉ s.oq.granted)

/-- The head block removed: it frees one slot, and in that moment the slot is granted to a stream that waits already, which a stream that
begins to wait later cannot take from it (spec/08 R128, R129, log 14). -/
def State.freeSlot (s : State) : State :=
  { s with oq := ⟨s.oq.blocks.tail, s.oq.granted ++ s.nextGrantee.toList⟩ }

/-- The stream whose block a slot grant seals: the first that holds a grant; where none does, the lowest-numbered that waits (spec/08
R128, log 14). -/
def State.grantee (s : State) : Option (Fin 8) :=
  (s.oq.granted ++ s.waiting).head?

/-- The state with the oldest grant used. -/
def State.useGrant (s : State) : State :=
  { s with oq := { s.oq with granted := s.oq.granted.tail } }

/-- A freed slot taken by the stream it is granted to: its block is sealed at the tail (spec/08 R128). Nothing happens where the queue has
no slot or that stream does not wait (log 8). -/
def State.grantSlot (s : State) : State :=
  match s.grantee with
  | none => s
  | some i =>
    if s.oq.blocks.length < Config.queueBlocks then
      match (s.sas.get i).state with
      | .finalWait => s.useGrant.sealStream i true .done
      | .waiting => s.useGrant.sealStream i false .filling
      | .off => s
      | .filling => s
      | .done => s
    else s

/-- Every enabled stream has emitted its final block (spec/08 R126). -/
def State.drained (s : State) : Bool :=
  s.streamsOn.all fun i => decide ((s.sas.get i).state = .done)

/-! ### Raw streams -/

/-- The tracks of stream `i` when its next sample group may be taken: it is a raw stream in FILLING with r below w, which is E after
capture has ended (spec/08 R122). -/
def State.rawReady (s : State) (i : Fin 8) : Option TrackSet :=
  match s.rawTracks i with
  | some ts => if (s.sas.get i).state = .filling ∧ (s.sas.get i).r < s.crg.w then some ts else none
  | none => none

/-- A raw stream's advance: r rises by one, the loss mark is gone (spec/08 R122). -/
def Stream.advance (s : Stream) : Stream :=
  { s with r := s.r + 1, loss := false }

/-- A raw stream's open LOST span closed at its first advance after a jump (spec/01 R15). -/
def State.closeStreamLoss (s : State) (i : Fin 8) : State :=
  if s.crg.streamLost.get i then
    { s with crg := { s.crg with streamLost := s.crg.streamLost.set i false } }.report
      (.growth ⟨.lossStream i, none, none, none, true⟩)
  else s

/-- The take of stream `i` once it is ready: slot, flags, advance, loss span, and the end mark at the last group (spec/08 R122,
R123). -/
def State.takeGroup (s : State) (i : Fin 8) (tracks : TrackSet) : State :=
  let st := s.sas.get i
  let slot := groupSlot (s.psc.pass.streams.get i).format tracks s.crg st.r
  let s1 := s.closeStreamLoss i
  let s2 := { s1 with sas := s1.sas.set i (s1.sas.get i).advance }
  let s3 := s2.addSlot i slot st.r { FlagSet.empty with lost := st.loss }
  match s.crg.e with
  | some e => if st.r + 1 = e then s3.endMark i else s3
  | none => s3

/-- The raw streams in the pass whose next unread index is E: they give themselves their end mark at the end of capture (spec/08
R123). -/
def State.rawAtEnd (s : State) (e : Nat) : List (Fin 8) :=
  streamList.filter fun i => (s.rawTracks i).isSome && decide ((s.sas.get i).r = e)

/-! ### Abort and pass boundaries -/

/-- A stream after an ABORT: its buffer is discarded and counted (spec/08 R130). -/
def Stream.abort (s : Stream) : Stream :=
  { s with state := .off, buffer := [], first := 0, last := 0, flags := .empty, discards := s.discards + s.buffer.length }

/-- A stream at the entry into RUNNING (spec/08 R120, R131). -/
def Stream.enterRunning (s : Stream) (on : Bool) : Stream :=
  { s with
    state := if on then .filling else .off, buffer := [], emit := 0, first := 0, last := 0, flags := .empty, r := 0, loss := false }

end Sys2Proof.Machine
end

