-- ==== Sys2Proof/Machine/Speed.lean ====
section
/-! DEFINITION. Speed arithmetic (spec/03): the nominal step, the speed bounds, the raw steps, smoothing and finalisation, and the
coefficient class the nominal step selects (spec/07 R105). -/

namespace Sys2Proof.Machine

/-- The nominal step of an output rate and a transfer speed factor (spec/03 R43). -/
def nominalStep (rate factor : Nat) : Nat :=
  192000 * 2 ^ 24 / (factor * rate)

/-- The lower speed bound (spec/03 R47). -/
def lowerBound (nominal sw : Nat) : Nat :=
  nominal * (1000 - sw) / 1000

/-- The upper speed bound (spec/03 R47). -/
def upperBound (nominal sw : Nat) : Nat :=
  ceilDiv (nominal * (1000 + sw)) 1000

/-- The raw step of a window under a BIAS source (spec/03 R45). -/
def rawStepBias (nominal pSum n pEff : Nat) : Nat :=
  roundHalfUpNat (nominal * pSum) (n * pEff)

/-- The raw step of a window under source DECK (spec/03 R46). -/
def rawStepDeck (nominal tLast tNom : Nat) : Nat :=
  roundHalfUpNat (nominal * tLast) tNom

/-- The class of a pass nominal step (spec/07 R105). -/
def classOf (nominal : Nat) : CoefficientClass :=
  if nominal ≤ 16777216 then .A else if nominal ≤ 33554432 then .B else .C

/-- The half-span h of a smoothing span M (spec/03 R48). -/
def halfSpan (smoothing : Nat) : Nat :=
  (smoothing - 1) / 2

/-- Slots of the speed table for a window length (spec/02 R34). -/
def tableSlots (window : Nat) : Nat :=
  Config.ringSlots / window

/-- The entry of window `j`, while its slot holds it (spec/02 R37). -/
def tableEntry (table : List (Nat × SpeedEntry)) (slots j : Nat) : Option SpeedEntry :=
  match slotFind table (j % slots) with
  | some e => if e.window = j then some e else none
  | none => none

/-- The entry of window `j` of a side as its resampler reads it: from its slot of the table, or the entry that the end-of-capture close
displaced (spec/02 R37, spec/07 R101, R102, log 31). -/
def Tracker.entry (t : Tracker) (slots j : Nat) : Option SpeedEntry :=
  (tableEntry t.table slots j).or (t.displaced.filter fun e => decide (e.window = j))

/-- The base steps of the entries numbered j - h to j + h that exist (spec/03 R50). -/
def memberSteps (table : List (Nat × SpeedEntry)) (slots h j : Nat) : List Nat :=
  (List.range (2 * h + 1)).filterMap fun i =>
    if h ≤ j + i then (tableEntry table slots (j + i - h)).map (·.baseStep) else none

/-- The applied step of entry `e`: the mean of its members' base steps rounded half up, or its own base step when it was made under
source NONE (spec/03 R50, R52). -/
def appliedStepOf (table : List (Nat × SpeedEntry)) (slots h : Nat) (e : SpeedEntry) : Nat :=
  if e.lock = .off then e.baseStep
  else
    let steps := memberSteps table slots h e.window
    roundHalfUpNat steps.sum steps.length

/-- The table with entry `j` finalised (spec/03 R50). -/
def finaliseEntry (slots h : Nat) (table : List (Nat × SpeedEntry)) (j : Nat) : List (Nat × SpeedEntry) :=
  match tableEntry table slots j with
  | some e => slotPut table (j % slots) { e with appliedStep := some (appliedStepOf table slots h e) }
  | none => table

/-- The entries from the finalisation point up to, not including, `upTo` finalised in window order, and the point moved (spec/03
R49, R51). -/
def Tracker.finaliseTo (t : Tracker) (slots h upTo : Nat) : Tracker :=
  { t with
    table := ((List.range (upTo - t.final)).map (t.final + ·)).foldl (finaliseEntry slots h) t.table
    final := max t.final upTo }

/-- The newest final entry of a side: window number and applied step (spec/03 R54). -/
def Tracker.newestFinal (t : Tracker) (slots : Nat) : Option (Nat × Nat) :=
  if t.final = 0 then none
  else match tableEntry t.table slots (t.final - 1) with
    | some e => e.appliedStep.map fun a => (e.window, a)
    | none => none

end Sys2Proof.Machine
end

