-- ==== Sys2Proof/Machine/Tracker.lean ====
section
/-! DEFINITION. The reference tracker (spec/02): the reference band, crossings and periods, window close and verdicts, the lock
state machine, source changes, speed-table entries and skew measurement. -/

namespace Sys2Proof.Machine

/-! ### Reference band, crossings and periods -/

/-- One step of the reference band filter of a side. While every input so far has been 0 the memory is 0 and the value is 0
(spec/02 R19). -/
def referenceFilter (x : Side) (memory : Nat) (sample : Int) : Nat × Int :=
  if memory = 0 ∧ sample = 0 then (0, 0)
  else
    let out := Config.referenceBand x memory sample
    (out.1, out.2.toInt)

/-- The position, in 1/256 wide tick, of the rising crossing between the filtered values a of wide sample v - 1 and b of wide
sample v, if there is one (spec/02 R20). -/
def risingCrossing (a b : Int) (v : Nat) : Option Nat :=
  if a < 0 ∧ 0 ≤ b then some (256 * (v - 1) + (256 * (-a) / (b - a)).toNat) else none

/-- A filtered track takes the filtered value of wide sample `v`: the value is held, and a crossing it completes becomes the latest
(spec/02 R20, R21). -/
def FilteredTrack.take (f : FilteredTrack) (v : Nat) (b : Int) : FilteredTrack :=
  { f with
    held := some b
    latest := match f.held with
      | some a => match risingCrossing a b v with
        | some pos => some pos
        | none => f.latest
      | none => f.latest }

/-- The crossing that the filtered value of wide sample `v` completes on a track (spec/02 R20). -/
def FilteredTrack.crossing (f : FilteredTrack) (v : Nat) (b : Int) : Option Nat :=
  match f.held with
  | some a => risingCrossing a b v
  | none => none

/-- A period lies in the accepted range of P_eff (spec/02 R21). -/
def periodValid (pEff period : Nat) : Bool :=
  if pEff = 0 then decide (768 ≤ period) && decide (period ≤ 65535)
  else decide (pEff / 2 ≤ period) && decide (period ≤ 2 * pEff)

/-- The valid period that ends at crossing `pos` of a track (spec/02 R21). -/
def validPeriod (pEff : Nat) (latest : Option Nat) (pos : Nat) : Option Nat :=
  match latest with
  | some l => if periodValid pEff (pos - l) then some (pos - l) else none
  | none => none

/-- The skew offset of an R crossing, from the latest L crossing (spec/02 R38). -/
def skewOffset (pEff : Nat) (latestL : Option Nat) (posR : Nat) : Option Nat :=
  match latestL with
  | some l => if pEff ≠ 0 ∧ l ≤ posR ∧ posR - l ≤ pEff / 2 then some (posR - l) else none
  | none => none

/-- Window sums added (spec/02 R21, R38). -/
def WindowSums.add (a b : WindowSums) : WindowSums :=
  ⟨a.nL + b.nL, a.pL + b.pL, a.nR + b.nR, a.pR + b.pR, a.offsetSum + b.offsetSum, a.offsetCount + b.offsetCount⟩

/-- What the L crossing at `pos` adds to the sums of its window (spec/02 R21). -/
def leftSums (t : Tracker) (pos : Nat) : WindowSums :=
  match validPeriod t.pEff t.left.latest pos with
  | some p => { WindowSums.zero with nL := 1, pL := p }
  | none => .zero

/-- What the R crossing at `pos` adds to the sums of its window; `latestL` counts an L crossing of the same wide sample (spec/02
R21, R38). -/
def rightSums (t : Tracker) (latestL : Option Nat) (pos : Nat) : WindowSums :=
  let period := match validPeriod t.pEff t.right.latest pos with
    | some p => { WindowSums.zero with nR := 1, pR := p }
    | none => WindowSums.zero
  match skewOffset t.pEff latestL pos with
  | some o => { period with offsetSum := o, offsetCount := 1 }
  | none => period

/-- Sums kept only when the crossing they belong to satisfies a test on its position. -/
def sumsWhen (keep : Nat → Bool) (pos : Option Nat) (sums : Nat → WindowSums) : WindowSums :=
  match pos with
  | some p => if keep p then sums p else .zero
  | none => .zero

/-- The sums that the filtered values `bl` and `br` of wide sample `v` give to the windows whose crossings satisfy `keep` (spec/02
R21, R22, R38). -/
def Tracker.located (t : Tracker) (v : Nat) (bl br : Int) (keep : Nat → Bool) : WindowSums :=
  (sumsWhen keep (t.left.crossing v bl) (leftSums t)).add
    (sumsWhen keep (t.right.crossing v br) (rightSums t (t.left.take v bl).latest))

/-- Both tracks take the filtered values of wide sample `v`, the L track first (spec/02 R38). -/
def Tracker.holdValues (t : Tracker) (v : Nat) (bl br : Int) : Tracker :=
  { t with left := t.left.take v bl, right := t.right.take v br }

/-- The filtered values of wide sample `v` taken inside a window: every crossing lies in the open window (spec/02 R21). -/
def Tracker.takeFiltered (t : Tracker) (v : Nat) (bl br : Int) : Tracker :=
  { t.holdValues v bl br with sums := t.sums.add (t.located v bl br fun _ => true) }

/-- The delay memories after both tracks have filtered a wide sample, and the filtered values (spec/02 R19). -/
def Tracker.filter (t : Tracker) (x : Side) (sl sr : Int) : Tracker × Int × Int :=
  let l := referenceFilter x t.left.memory sl
  let r := referenceFilter x t.right.memory sr
  ({ t with left := { t.left with memory := l.1 }, right := { t.right with memory := r.1 } }, l.2, r.2)

/-- One wide sample of both tracks inside a window. -/
def Tracker.wideSample (t : Tracker) (x : Side) (v : Nat) (sl sr : Int) : Tracker :=
  let f := t.filter x sl sr
  f.1.takeFiltered v f.2.1 f.2.2

/-! ### Window close -/

/-- What a window close works from: the side's pass settings, the pass nominal step, the window's length, whether it is an
end-of-capture close, the defect list's answer (R23) and the fresh tacho period (R25). -/
structure Closing where
  settings : SideSettings
  nominal : Nat
  length : Nat
  atEnd : Bool
  spliced : Bool
  period : Option Nat
  deriving DecidableEq, Repr

/-- The source is one of the BIAS sources (spec/02 R18). -/
def SideSource.isBias : SideSource → Bool
  | .biasL => true
  | .biasR => true
  | .biasBoth => true
  | .none => false
  | .deck => false

/-- The tracks a source uses (spec/02 R24). -/
def SideSource.tracksUsed : SideSource → Nat
  | .biasBoth => 2
  | .biasL => 1
  | .biasR => 1
  | .none => 1
  | .deck => 1

/-- The window's n (spec/02 R24, R25, R26). -/
def Tracker.windowN (t : Tracker) (c : Closing) : Nat :=
  match t.source with
  | .biasL => t.sums.nL
  | .biasR => t.sums.nR
  | .biasBoth => t.sums.nL + t.sums.nR
  | .none => t.sums.nL
  | .deck => match c.period with
    | some _ => 1
    | none => 0

/-- The window's P_sum (spec/02 R24, R25, R26). -/
def Tracker.windowP (t : Tracker) (c : Closing) : Nat :=
  match t.source with
  | .biasL => t.sums.pL
  | .biasR => t.sums.pR
  | .biasBoth => t.sums.pL + t.sums.pR
  | .none => t.sums.pL
  | .deck => c.period.getD 0

/-- The window is SHORT: an end-of-capture close with L_win × 4 < W (spec/02 R24). -/
def Closing.short (c : Closing) : Bool :=
  c.atEnd && decide (c.length * 4 < c.settings.window)

/-- The absolute difference of two counts. -/
def distance (a b : Nat) : Nat :=
  (a - b) + (b - a)

/-- The verdict under a BIAS source (spec/02 R24). -/
def verdictBias (c : Closing) (pEff n p used : Nat) : Verdict :=
  if c.short then .short
  else if c.spliced then .splice
  else if p * 2 < used * c.length * 1024 then .noRef
  else if pEff ≠ 0 ∧ c.settings.speedWindow * n * pEff < distance p (n * pEff) * 1000 then .out
  else .inside

/-- The verdict under source DECK (spec/02 R25). -/
def verdictDeck (c : Closing) : Verdict :=
  if c.short then .short
  else if c.spliced then .splice
  else match c.period with
    | none => .noRef
    | some p => if c.settings.speedWindow * c.settings.tNom < distance p c.settings.tNom * 1000 then .out else .inside

/-- The verdict of the closing window; none under source NONE (spec/02 R24, R25, R26). -/
def Tracker.verdict (t : Tracker) (c : Closing) : Option Verdict :=
  match t.source with
  | .none => none
  | .deck => some (verdictDeck c)
  | .biasL => some (verdictBias c t.pEff (t.windowN c) (t.windowP c) 1)
  | .biasR => some (verdictBias c t.pEff (t.windowN c) (t.windowP c) 1)
  | .biasBoth => some (verdictBias c t.pEff (t.windowN c) (t.windowP c) 2)

/-- The side acquires: SEARCH under a BIAS source with P_eff 0 (spec/02 R29). -/
def Tracker.acquiring (t : Tracker) : Bool :=
  decide (t.lock = .search) && t.source.isBias && decide (t.pEff = 0)

/-- The close of a window in acquisition (spec/02 R29). -/
def Tracker.acquire (t : Tracker) (goal : Nat) (v : Verdict) (n p : Nat) : Tracker :=
  match v with
  | .inside =>
    if t.acqCount + 1 = goal then
      { t with
        pEff := clampNat (roundHalfUpNat (t.acqP + p) (t.acqN + n)) 768 65535
        acqCount := 0, acqN := 0, acqP := 0, lock := .confirm, confirm := 0 }
    else { t with acqCount := t.acqCount + 1, acqN := t.acqN + n, acqP := t.acqP + p }
  | .noRef => { t with acqCount := 0, acqN := 0, acqP := 0 }
  | .out => t
  | .splice => t
  | .short => t

/-- The lock after an IN verdict in SEARCH or LAPSED (spec/02 R28). -/
def Tracker.beginConfirm (t : Tracker) (goal : Nat) : Tracker :=
  if goal = 1 then { t with lock := .locked, confirm := 0 } else { t with lock := .confirm, confirm := 1 }

/-- The lock state machine on an IN verdict (spec/02 R28). -/
def Tracker.lockOnIn (t : Tracker) (goal : Nat) : Tracker :=
  match t.lock with
  | .off => t
  | .search => t.beginConfirm goal
  | .confirm =>
    if t.confirm + 1 = goal then { t with lock := .locked, confirm := 0 } else { t with confirm := t.confirm + 1 }
  | .locked => t
  | .hold => { t with lock := .locked, hold := 0 }
  | .lapsed => t.beginConfirm goal

/-- The lock state machine on a rejecting verdict (spec/02 R28). -/
def Tracker.lockOnReject (t : Tracker) (limit : Nat) : Tracker :=
  match t.lock with
  | .off => t
  | .search => t
  | .confirm => { t with lock := .search, confirm := 0 }
  | .locked => { t with lock := .hold, hold := 1 }
  | .hold => if limit < t.hold + 1 then { t with lock := .lapsed, hold := 0 } else { t with hold := t.hold + 1 }
  | .lapsed => t

/-- The lock state machine (spec/02 R28, R29). -/
def Tracker.lockStep (t : Tracker) (g : SideSettings) (v : Verdict) (n p : Nat) : Tracker :=
  if t.acquiring then t.acquire g.acquire v n p
  else match v with
    | .inside => t.lockOnIn g.confirm
    | .out => t.lockOnReject g.holdLimit
    | .noRef => t.lockOnReject g.holdLimit
    | .splice => t.lockOnReject g.holdLimit
    | .short => t

/-- The raw step of the closing window, where present (spec/02 R36, spec/03 R45, R46). -/
def Tracker.rawStep (t : Tracker) (c : Closing) (v : Option Verdict) : Option Nat :=
  if v = some .inside then
    match t.source with
    | .none => none
    | .deck => some (rawStepDeck c.nominal (t.windowP c) c.settings.tNom)
    | .biasL => if t.pEff = 0 then none else some (rawStepBias c.nominal (t.windowP c) (t.windowN c) t.pEff)
    | .biasR => if t.pEff = 0 then none else some (rawStepBias c.nominal (t.windowP c) (t.windowN c) t.pEff)
    | .biasBoth => if t.pEff = 0 then none else some (rawStepBias c.nominal (t.windowP c) (t.windowN c) t.pEff)
  else none

/-- The side's newest entry in this pass (spec/02 R35, R39). -/
def Tracker.newest (t : Tracker) (slots : Nat) : Option SpeedEntry :=
  if t.windows = 0 then none else tableEntry t.table slots (t.windows - 1)

/-- The trim of the closing window: measured when R39's conditions hold, otherwise that of the previous entry, or 0 (spec/02
R39). -/
def Tracker.trimOf (t : Tracker) (c : Closing) (v : Option Verdict) : Int :=
  if c.settings.skewMode = .auto ∧ v = some .inside ∧ c.length * 1024 ≤ t.sums.pL * 2 ∧ c.length * 1024 ≤ t.sums.pR * 2 ∧
      1 ≤ t.sums.offsetCount then
    clampInt (roundHalfAway t.sums.offsetSum (64 * t.sums.offsetCount)) (-8) 8
  else match t.newest (tableSlots c.settings.window) with
    | some e => e.trim
    | none => 0

/-- The base step of the closing window, from the tracker as its lock has moved (spec/02 R35). -/
def Tracker.baseStep (t : Tracker) (c : Closing) (v : Option Verdict) (raw : Option Nat) : Nat :=
  if v = some .short then
    match t.newest (tableSlots c.settings.window) with
    | some e => e.baseStep
    | none => c.nominal
  else match t.lock with
    | .locked => raw.getD t.lastAccepted
    | .hold => t.lastAccepted
    | .search => c.nominal
    | .confirm => c.nominal
    | .lapsed => c.nominal
    | .off => c.nominal

/-- The skew list with the mean of a window appended, the oldest of 8 removed first (spec/02 R40). -/
def Tracker.skewListAfter (t : Tracker) : List Nat :=
  if t.sums.offsetCount = 0 then t.skewList
  else (if t.skewList.length < 8 then t.skewList else t.skewList.drop (t.skewList.length - 7)) ++
    [t.sums.offsetSum / t.sums.offsetCount]

/-- The lock after the close's transition; none under source NONE (spec/02 R26, R28). -/
def Tracker.moveLock (t : Tracker) (c : Closing) (v : Option Verdict) : Tracker :=
  match v with
  | none => t
  | some w => t.lockStep c.settings w (t.windowN c) (t.windowP c)

/-- The entry the close writes (spec/02 R34). -/
def Tracker.entryOf (t : Tracker) (c : Closing) : SpeedEntry :=
  let v := t.verdict c
  let raw := t.rawStep c v
  let m := t.moveLock c v
  { window := t.windows, verdict := v, n := t.windowN c, pSum := t.windowP c, rawStep := raw, baseStep := m.baseStep c v raw,
    appliedStep := none, trim := t.trimOf c v, lock := if v = none then .off else m.lock }

/-- The tracker after a window close, in the order R34 gives: verdict, lock, raw step and trim, base step, the entry, the
finalisations (spec/03 R49, R51), the skew list; then the next window is open (spec/02 R22). The entry whose slot the end-of-capture close
takes is kept beside the table, where a draining side that still stands in its window reads it (spec/07 R101, R102, log 31). -/
def Tracker.close (t : Tracker) (c : Closing) : Tracker :=
  let v := t.verdict c
  let e := t.entryOf c
  let m := t.moveLock c v
  let slots := tableSlots c.settings.window
  let h := halfSpan c.settings.smoothing
  let written : Tracker :=
    { m with
      lastAccepted := if m.lock = .locked ∧ v ≠ some .short then e.baseStep else m.lastAccepted
      table := slotPut m.table (t.windows % slots) e
      displaced := if c.atEnd then slotFind m.table (t.windows % slots) else m.displaced
      windows := t.windows + 1
      skewList := t.skewListAfter
      sums := .zero
      boundary := if c.atEnd then m.boundary else some ((t.windows + 1) * c.settings.window) }
  written.finaliseTo slots h (if c.atEnd then t.windows + 1 else t.windows + 1 - h)

/-- The new lock state when the close queues a LOCK notice (spec/02 R30). -/
def lockNotice (before after : LockState) : Option LockState :=
  if before = after then none
  else match after with
    | .locked => some .locked
    | .hold => some .hold
    | .lapsed => some .lapsed
    | .off => none
    | .search => none
    | .confirm => none

/-- The fresh tacho period as a close finds it (spec/02 R25, spec/09 R141). -/
def SenseUnit.freshPeriod (u : SenseUnit) : Option Nat :=
  if u.fresh && !u.stalled then u.tLast else none

/-- What the close of side `x`'s open window works from. -/
def State.closing (s : State) (x : Side) (length : Nat) (atEnd : Bool) : Closing :=
  let g := s.psc.pass.sides.get x
  let j := (s.rtr.get x).windows
  { settings := g, nominal := s.psc.nominal, length := length, atEnd := atEnd
    spliced := s.dfl.spliced x (j * g.window) (j * g.window + length - 1), period := s.sns.freshPeriod }

/-- The close of side `x`'s open window with origin index `origin`: the tracker's own work, the LOCK notice (R30) and the REFLOSS
report (R31). -/
def State.closeWindow (s : State) (x : Side) (length : Nat) (atEnd : Bool) (origin : Nat) : State :=
  let t := s.rtr.get x
  let c := s.closing x length atEnd
  let t' := t.close c
  let s1 := { s with rtr := s.rtr.set x t' }
  let s2 := match lockNotice t.lock t'.lock with
    | some l => s1.notify (.lock x l) origin
    | none => s1
  if t'.lock = .lapsed then
    s2.report (.span ⟨.refloss, sideTracks x, t.windows * c.settings.window, length, none, none, none, false, none⟩)
  else s2

/-! ### Source changes -/

/-- The lock returned to the start of tracking under a source (spec/02 R27, R33). -/
def Tracker.restartLock (t : Tracker) (nominal : Nat) : Tracker :=
  { t with
    lock := if t.source = .none then .off else .search
    confirm := 0, hold := 0, acqCount := 0, acqN := 0, acqP := 0, lastAccepted := nominal }

/-- A SOURCE cue taken (spec/02 R33). -/
def Tracker.applySource (t : Tracker) (nominal : Nat) (source : SideSource) (pNom : Option Nat) : Tracker :=
  let t' := { t with source := source, pEff := pNom.getD t.pEff }
  if source = t.source ∧ pNom = none then t' else t'.restartLock nominal

/-- The effect of a SOURCE cue on its side. -/
def applySourceCue (c : Cue) (s : State) : State :=
  match c.body with
  | .source x src p => { s with rtr := s.rtr.set x ((s.rtr.get x).applySource s.psc.nominal src p) }
  | .lift _ _ => s
  | .gMax _ _ => s
  | .skew _ _ => s
  | .mark _ => s

/-- A SOURCE cue of side `x` is due at boundary `b` (spec/02 R32, spec/10 R158). -/
def sourceDue (x : Side) (b : Nat) (c : Cue) : Bool :=
  match c.body with
  | .source y _ _ => decide (y = x) && decide (c.position ≤ b)
  | .lift _ _ => false
  | .gMax _ _ => false
  | .skew _ _ => false
  | .mark _ => false

/-- The SOURCE cues of side `x` taken at boundary `b` (spec/02 R32). -/
def State.takeSourceCues (s : State) (x : Side) (b : Nat) : State :=
  s.takeCues (sourceDue x b) b applySourceCue

/-! ### The group event and the end of capture -/

/-- The tracker of side `x` after the wide samples numbered `v` to `v + 3` of one group that lie inside the open window; `skip` is
how many the boundary has already taken. -/
def Tracker.group (t : Tracker) (x : Side) (n : Nat) (l r : Quad) (skip : Bool) : Tracker :=
  let a := if skip then t else t.wideSample x (4 * n) l.w0.toInt r.w0.toInt
  let b := a.wideSample x (4 * n + 1) l.w1.toInt r.w1.toInt
  let c := b.wideSample x (4 * n + 2) l.w2.toInt r.w2.toInt
  c.wideSample x (4 * n + 3) l.w3.toInt r.w3.toInt

/-- The state with side `x`'s tracker replaced. -/
def State.putTracker (s : State) (x : Side) (t : Tracker) : State :=
  { s with rtr := s.rtr.set x t }

/-- A boundary of side `x` in the group event for index `n`: the first wide sample is filtered, a crossing in the old window enters
its sums and one in the new window is held, the window closes, SOURCE cues are taken, and the held sums enter the new window
(spec/02 R22, R32). The held crossing belongs to the window that opens, so its period and skew offset are judged by the P_eff of that
window, after the close and its cues (spec/02 R29, R33, spec/06 R97, log 30). -/
def State.boundary (s : State) (x : Side) (n : Nat) (sl sr : Int) : State :=
  let f := (s.rtr.get x).filter x sl sr
  let old := f.1.located (4 * n) f.2.1 f.2.2 fun pos => decide (pos / 256 < 4 * n)
  let t := { f.1.holdValues (4 * n) f.2.1 f.2.2 with sums := f.1.sums.add old }
  let s1 := ((s.putTracker x t).closeWindow x (s.psc.pass.sides.get x).window false n).takeSourceCues x n
  let u := s1.rtr.get x
  let new := { f.1 with pEff := u.pEff }.located (4 * n) f.2.1 f.2.2 fun pos => decide (4 * n ≤ pos / 256)
  s1.putTracker x { u with sums := u.sums.add new }

/-- Side `x`'s part of the group event for capture index `n` (spec/02 R19, R22). A disabled side takes no part (R18). -/
def State.trackSide (s : State) (x : Side) (n : Nat) (g : WideGroup) : State :=
  if s.sideOn x then
    let l := g.get x.left
    let r := g.get x.right
    let atBoundary := decide (n = ((s.rtr.get x).windows + 1) * (s.psc.pass.sides.get x).window)
    let s1 := if atBoundary then s.boundary x n l.w0.toInt r.w0.toInt else s
    s1.putTracker x ((s1.rtr.get x).group x n l r atBoundary)
  else s

/-- The group event at the reference tracker, side A before side B (spec/01 R3). -/
def State.trackGroup (s : State) (n : Nat) (g : WideGroup) : State :=
  (s.trackSide .A n g).trackSide .B n g

/-- The end-of-capture close of side `x`, with E the end of capture (spec/02 R22, spec/03 R51). -/
def State.finishSide (s : State) (x : Side) (e : Nat) : State :=
  let start := (s.rtr.get x).windows * (s.psc.pass.sides.get x).window
  if s.sideOn x && decide (start < e) then s.closeWindow x (e - start) true e else s

/-- The tracker of a side after capture has ended: the sums are used up (spec/02 R41). -/
def State.trackFinish (s : State) (e : Nat) : State :=
  (s.finishSide .A e).finishSide .B e

/-- A side's tracker at the entry into RUNNING (spec/02 R27, R41, spec/03 R49). -/
def Tracker.enterRunning (t : Tracker) (on : Bool) (nominal : Nat) : Tracker :=
  { t with
    left := .cleared, right := .cleared, sums := .zero
    lock := if on && decide (t.source ≠ .none) then .search else .off
    confirm := 0, hold := 0, acqCount := 0, acqN := 0, acqP := 0, lastAccepted := nominal, table := [], displaced := none
    windows := 0, final := 0, boundary := if on then some 0 else none }

/-- A side's tracker at the entry into ENDED (spec/02 R27, R41). -/
def Tracker.enterEnded (t : Tracker) : Tracker :=
  { t with sums := .zero, lock := .off, confirm := 0, hold := 0, acqCount := 0, acqN := 0, acqP := 0 }

/-- A side's tracker as ARM, RESTART and line reset make it, from its pass settings, the pass nominal step and the P_eff the event
gives (spec/02 R41, spec/03 R47, R55). -/
def Tracker.fresh (g : SideSettings) (nominal pEff : Nat) : Tracker :=
  { source := g.source, pEff := pEff, left := .cleared, right := .cleared, sums := .zero, lock := .off, confirm := 0, hold := 0,
    acqCount := 0, acqN := 0, acqP := 0, lastAccepted := nominal, lower := lowerBound nominal g.speedWindow
    upper := upperBound nominal g.speedWindow, table := [], displaced := none, windows := 0, final := 0
    skewList := [], boundary := none }

end Sys2Proof.Machine
end

