-- ==== Sys2Proof/Machine/Resampler.lean ====
section
/-! DEFINITION. The resampler (spec/06, spec/07): the coefficient tables, the gate, the frame event and the advance. -/

namespace Sys2Proof.Machine

/-! ### Coefficients -/

/-- A unit impulse: 131,072 at t = 0, which is tap number 7, and 0 elsewhere (spec/07 R105). -/
def impulseRow (k : Fin 16) : Int :=
  if k.val = 7 then 131072 else 0

/-- A row of two equal taps, which stands for phase rows of classes B and C where the free table is no table of the part. -/
def pairRow (k : Fin 16) : Int :=
  if k.val = 7 ∨ k.val = 8 then 65536 else 0

/-- The tap numbers 0 to 15, for t = -7 to 8. -/
def taps : List (Fin 16) :=
  List.finRange 16

/-- A row has the properties R105 gives every phase: range, sum, and sum of absolute values (spec/07 R105). -/
def rowOk (row : Fin 16 → Int) : Bool :=
  (taps.all fun k => decide (-131072 ≤ row k) && decide (row k ≤ 131072)) &&
    decide ((taps.map row).sum = 131072) && decide ((taps.map fun k => ((row k).natAbs : Int)).sum < 262144)

/-- A row is the unit impulse. -/
def isImpulse (row : Fin 16 → Int) : Bool :=
  taps.all fun k => decide (row k = impulseRow k)

/-- The free table has every property R105 states: each row, the impulse at phase 0 of class A, and none at phase 0 of B and C
(spec/07 R105). -/
def tableOk (h : CoefficientClass → Fin 64 → Fin 16 → Int) : Bool :=
  ((List.finRange 64).all fun f => rowOk (h .A f) && rowOk (h .B f) && rowOk (h .C f)) &&
    isImpulse (h .A 0) && !isImpulse (h .B 0) && !isImpulse (h .C 0)

/-- The coefficient h[class, phase, t] for tap number t + 7. Any table with the properties of R105 may be the part's: the free table
where it has them, and otherwise a table that has them (spec/07 R105, log 4). -/
def coefficient (c : CoefficientClass) (phase : Fin 64) (k : Fin 16) : Int :=
  if tableOk Config.coefficientTable then Config.coefficientTable c phase k
  else match c with
    | .A => impulseRow k
    | .B => pairRow k
    | .C => pairRow k

/-! ### Interpolation -/

/-- The phase of a fraction (spec/07 R106). -/
def phaseOf (fraction : Nat) : Fin 64 :=
  Fin.ofNat 64 (fraction / 2 ^ 18)

/-- The interpolated value of sixteen inputs, in tap order (spec/07 R106). -/
def interpolate (c : CoefficientClass) (phase : Fin 64) (inputs : Fin 16 → Int) : Int :=
  saturate24 (((taps.map fun k => inputs k * coefficient c phase k).sum + 65536) / 131072)

/-- The input y[n] of a track: 0 before the pass and at or above E once capture has ended, else the ring's sample lifted by its
tick's gain (spec/07 R107). -/
def State.input (s : State) (t : Track) (n : Int) : Int :=
  match s.crg.e with
  | some e => if (e : Int) ≤ n then 0 else lifted (s.crg.read t n) (s.liftAt t n).1
  | none => lifted (s.crg.read t n) (s.liftAt t n).1

/-- The index read by tap number `k` about the integer part `i` (spec/07 R106). -/
def tapIndex (i : Int) (k : Fin 16) : Int :=
  i - 7 + k.val

/-- The value of one channel at integer part `i` and fraction `f` on its track (spec/07 R106). -/
def State.channel (s : State) (t : Track) (i : Int) (f : Nat) : Int :=
  interpolate s.psc.coefficients (phaseOf f) fun k => s.input t (tapIndex i k)

/-- The classes of the sixteen inputs of one channel (spec/07 R107, R115). -/
def State.classes (s : State) (t : Track) (i : Int) : List TickClass :=
  taps.map fun k => (s.liftAt t (tapIndex i k)).2

/-! ### The gate (spec/07 R101 to R103) -/

/-- The window a frame at integer part `i` reads (spec/07 R101). -/
def State.windowOf (s : State) (x : Side) (i : Nat) : Nat :=
  i / (s.psc.pass.sides.get x).window

/-- The final speed-table entry of the window side `x`'s read position stands in, with its applied step (spec/07 R101 (a)). -/
def State.frameEntry (s : State) (x : Side) : Option (SpeedEntry × Nat) :=
  match (s.rtr.get x).entry (tableSlots (s.psc.pass.sides.get x).window) (s.windowOf x (s.rsp.get x).index) with
  | some e => e.appliedStep.map fun a => (e, a)
  | none => none

/-- A stream has room for a frame (spec/07 R110). -/
def State.hasRoom (s : State) (i : Fin 8) : Bool :=
  decide ((s.sas.get i).state = .filling) &&
    decide ((s.sas.get i).buffer.length < (s.psc.pass.streams.get i).framesPerBlock)

/-- The first failing condition of side `x`'s gate among ENTRY, SETTLE and ROOM (spec/07 R101, R103). -/
def State.gateCause (s : State) (x : Side) : WaitCause :=
  if (s.frameEntry x).isNone then .entry
  else if s.sideSettled x ≤ (s.rsp.get x).index + 16 then .settle
  else if (s.restoredStreams x).all s.hasRoom then .none
  else .room

/-- The gate admits the next frame of side `x` (spec/07 R101, R102). -/
def State.gateOpen (s : State) (x : Side) : Bool :=
  decide (s.gateCause x = .none) &&
    match (s.rsp.get x).state with
    | .active => decide ((s.rsp.get x).index + 16 < s.crg.w)
    | .draining => decide ((s.rsp.get x).index < s.crg.e.getD 0)
    | .off => false
    | .finished => false

/-- The wait cause of side `x` as the gate stands (spec/07 R103). -/
def State.waitCause (s : State) (x : Side) : WaitCause :=
  match (s.rsp.get x).state with
  | .active => s.gateCause x
  | .draining => s.gateCause x
  | .off => .none
  | .finished => .none

/-- The gates tested again, and the wait causes recorded (spec/07 R103). -/
def State.testGates (s : State) : State :=
  { s with rsp := s.rsp.mapIdx fun x r => { r with wait := s.waitCause x } }

/-! ### The frame event (spec/07 R104) -/

/-- A SKEW cue of side `x` is due at a frame of integer part `i`: its position is reached, or it is late (spec/06 R91, R92). -/
def skewDue (x : Side) (i : Nat) (c : Cue) : Bool :=
  match c.body with
  | .skew y _ => decide (y = x) && (decide (c.position ≤ i) || c.late)
  | .source _ _ _ => false
  | .lift _ _ => false
  | .gMax _ _ => false
  | .mark _ => false

/-- The effect of a SKEW cue: the side's base skew is its value (spec/06 R91). -/
def applySkewCue (c : Cue) (s : State) : State :=
  match c.body with
  | .skew x v => { s with rsp := s.rsp.set x { s.rsp.get x with baseSkew := v } }
  | .source _ _ _ => s
  | .lift _ _ => s
  | .gMax _ _ => s
  | .mark _ => s

/-- The frame skew of a base skew and a trim (spec/06 R94). -/
def frameSkew (base trim : Int) : Int :=
  clampInt (base + trim) (-128) 127

/-- The R position of a read position and a frame skew (spec/06 R95). -/
def rightPosition (position : Nat) (skew : Int) : Int :=
  position + skew * 2 ^ 20

/-- A frame: its values, its flags and its I (spec/07 R104). -/
structure Frame where
  left : Int
  right : Int
  flags : FlagSet
  index : Nat
  deriving DecidableEq, Repr

/-- The frame of side `x` at its read position, from the entry `e` and the base skew as it stands (spec/07 R104, steps 2 to 5). -/
def State.frameOf (s : State) (x : Side) (e : SpeedEntry) : Frame :=
  let r := s.rsp.get x
  let pR := rightPosition r.position (frameSkew r.baseSkew e.trim)
  let iR := pR / Config.stepUnit
  { left := s.channel x.left r.index r.fraction
    right := s.channel x.right iR (pR % Config.stepUnit).toNat
    flags := frameFlags e.lock (s.classes x.left r.index ++ s.classes x.right iR) r.loss
    index := r.index }

/-- A stream takes a frame (spec/07 R109, spec/08 R121). -/
def State.giveFrame (f : Frame) (s : State) (i : Fin 8) : State :=
  let d := s.psc.pass.streams.get i
  match d.source with
  | .side _ l r => s.addSlot i (frameSlot d.format l r f.left f.right) f.index f.flags
  | .raw _ => s

/-- The read position after the advance by a step; in DRAINING it stops at E (spec/07 R108). -/
def Resampler.advanced (r : Resampler) (step e : Nat) : Nat :=
  if r.state = .draining ∧ e < (r.position + step) / Config.stepUnit then e * Config.stepUnit else r.position + step

/-- Side `x`'s open LOST span closed at its first advance after a jump (spec/01 R15). -/
def State.closeSideLoss (s : State) (x : Side) : State :=
  if s.crg.sideLost.get x then
    { s with crg := { s.crg with sideLost := s.crg.sideLost.set x false } }.report
      (.growth ⟨.lossSide x, none, none, none, true⟩)
  else s

/-- Side `x` finishes: FINISHED, and an end mark to each of its restored streams (spec/07 R102). -/
def State.finishResampler (s : State) (x : Side) : State :=
  { s with rsp := s.rsp.set x { s.rsp.get x with state := .finished } }.endMarks (s.restoredStreams x)

/-- The end of a frame event: advance, count, passed position, loss span, and the finish in DRAINING (spec/07 R104 step 7, R108,
R102). -/
def State.advanceSide (s : State) (x : Side) (step : Nat) : State :=
  let r := s.rsp.get x
  let e := s.crg.e.getD 0
  let r' := { r with position := r.advanced step e, frames := r.frames + 1, passed := some r.index, loss := false }
  let s1 := { s with rsp := s.rsp.set x r' }.closeSideLoss x
  if r.state = .draining ∧ e ≤ r'.index then s1.finishResampler x else s1

/-- The frame event of side `x` when its gate admits (spec/07 R104). Its restored streams take the frame in ascending order (log 6). -/
def State.frame (s : State) (x : Side) : State :=
  let s1 := s.takeCues (skewDue x (s.rsp.get x).index) (s.rsp.get x).index applySkewCue
  match s.frameEntry x with
  | none => s1
  | some (e, step) =>
    let f := s1.frameOf x e
    ((s1.restoredStreams x).foldl (State.giveFrame f) s1).advanceSide x step

/-- A resampler as ARM makes it; the base skew is kept (spec/07 R117, spec/06 R98). -/
def Resampler.fresh (r : Resampler) : Resampler :=
  { state := .off, position := 0, frames := 0, passed := none, loss := false, wait := .none, baseSkew := r.baseSkew }

/-- The resamplers at the end of capture: DRAINING, or FINISHED with end marks where I is E already (spec/07 R100, R102). -/
def State.drainSide (s : State) (x : Side) (e : Nat) : State :=
  if (s.rsp.get x).state = .active then
    if (s.rsp.get x).index < e then { s with rsp := s.rsp.set x { s.rsp.get x with state := .draining } }
    else s.finishResampler x
  else s

end Sys2Proof.Machine
end

