-- ==== Sys2Proof/Machine/Capture.lean ====
section
/-! DEFINITION. The group event of capture (spec/01 R3) with the overrun check and its jumps (R14 to R16), the write of the rings
(R11), and the MARK cues (spec/05 R82). -/

namespace Sys2Proof.Machine

/-! ### The overrun check -/

/-- A consumer whose oldest-needed index is `old` is overrun by the write of index `w` (spec/01 R14). -/
def overrun (w : Nat) (old : Int) : Bool :=
  decide (Config.ringSlots ≤ w) && decide (old ≤ (w : Int) - Config.ringSlots)

/-- The oldest-needed index a consumer jumps to at the write of index `w` (spec/01 R14). -/
def jumpTarget (w : Nat) : Nat :=
  w - Config.ringSlots + Config.lostLength

/-- The LOST span of a jump from `old` at the write of index `w` (spec/01 R15). -/
def lostSpan (w : Nat) (old : Int) (tracks : TrackSet) (stream : Option (Fin 8)) (who : Reporter) : Report :=
  .span ⟨.lost, tracks, old.toNat, jumpTarget w - old.toNat, none, none, stream, false, some who⟩

/-- Side `x` jumps: read position, loss mark, open LOST span, report and notice (spec/01 R14 to R16, spec/07 R113). -/
def State.jumpSide (s : State) (x : Side) : State :=
  let r := s.rsp.get x
  let r' := { r with position := (jumpTarget s.crg.w + 15) * Config.stepUnit, loss := true }
  let s1 := { s with rsp := s.rsp.set x r', crg := { s.crg with sideLost := s.crg.sideLost.set x true } }
  (s1.report (lostSpan s.crg.w r.oldest (sideTracks x) none (.lossSide x))).notify (.lossSide x) s.crg.w

/-- Raw stream `i`, of the given tracks, jumps (spec/01 R14 to R16, spec/08 R123). -/
def State.jumpStream (s : State) (i : Fin 8) (tracks : TrackSet) : State :=
  let st := s.sas.get i
  let s1 := { s with
    sas := s.sas.set i { st with r := jumpTarget s.crg.w, loss := true }
    crg := { s.crg with streamLost := s.crg.streamLost.set i true } }
  (s1.report (lostSpan s.crg.w st.r tracks (some i) (.lossStream i))).notify (.lossStream i) s.crg.w

/-- The overrun check at one side (spec/01 R14). -/
def State.checkSide (s : State) (x : Side) : State :=
  if s.crg.sideConsumer.get x && overrun s.crg.w (s.rsp.get x).oldest then s.jumpSide x else s

/-- The overrun check at one raw stream (spec/01 R14). -/
def State.checkStream (s : State) (i : Fin 8) : State :=
  match s.rawTracks i with
  | some ts => if s.crg.streamConsumer.get i && overrun s.crg.w (s.sas.get i).r then s.jumpStream i ts else s
  | none => s

/-- The overrun check at every consumer, each by itself (spec/01 R14). The order, side A, side B, then streams 0 to 7, is the model's
choice (log 6). -/
def State.overrunCheck (s : State) : State :=
  streamList.foldl .checkStream (Side.list.foldl .checkSide s)

/-! ### The group event -/

/-- The TTA samples of a group (spec/01 R4). -/
def ttaSamples (g : WideGroup) : PerTrack Int :=
  g.map decimate

/-- The four samples written at index w (spec/01 R11). -/
def State.writeRings (s : State) (y : PerTrack Int) : State :=
  { s with crg := { s.crg with
      rings := s.crg.rings.mapIdx fun t r => ringWrite r (s.crg.w % Config.ringSlots) (y.get t) } }

/-- A MARK cue is due at the group event that writes index `n` (spec/05 R82, spec/10 R158). -/
def markDue (n : Nat) (c : Cue) : Bool :=
  match c.body with
  | .mark _ => decide (c.position ≤ n)
  | .source _ _ _ => false
  | .lift _ _ => false
  | .gMax _ _ => false
  | .skew _ _ => false

/-- The effect of a MARK cue taken in the group event that writes index `n`: a MARK span at `n` on the cue's mask (spec/05 R82). -/
def applyMarkCue (n : Nat) (c : Cue) (s : State) : State :=
  match c.body with
  | .mark ts => s.report (.span ⟨.mark, ts, n, 0, none, none, none, false, none⟩)
  | .source _ _ _ => s
  | .lift _ _ => s
  | .gMax _ _ => s
  | .skew _ _ => s

/-- The increment that ends the group event (spec/01 R5). -/
def State.advanceCapture (s : State) : State :=
  { s with
    crg := { s.crg with w := s.crg.w + 1 }
    cfe := { s.cfe with wideCount := 4 * (s.crg.w + 1), gathered := [] } }

/-- The group event for index w after the overrun check: rings, MARK cues, tracker, level monitor, clip detectors, increment (spec/01
R3, log 6); then closed entries settle (spec/05 R81) and the gates are tested again (spec/07 R103). -/
def State.captureGroup (s : State) (g : WideGroup) : State :=
  let n := s.crg.w
  let y := ttaSamples g
  let s1 := (s.writeRings y).takeCues (markDue n) n (applyMarkCue n)
  let s2 := ((s1.trackGroup n g).levelGroup n y).clipTake n g
  (s2.advanceCapture.settleDefects).testGates

/-- The group event for index w: the overrun check, and then the capture of the group (spec/01 R3, R14). -/
def State.group (s : State) (g : WideGroup) : State :=
  s.overrunCheck.captureGroup g

end Sys2Proof.Machine
end

