-- ==== Sys2Proof/Machine/Pass.lean ====
section
/-! DEFINITION. The pass controller's shared operations (spec/10): arming, the entry into RUNNING, the end of capture, abort, the
entry into ENDED, the return to IDLE, and restart and line reset (spec/11 R174, R175). -/

namespace Sys2Proof.Machine

/-! ### Arming, restart and line reset -/

/-- The tracks watched in a pass: those of every enabled side and of every enabled raw stream (spec/01 R8). -/
def watchedTracks (g : Settings) : TrackSet :=
  let sides := Side.list.foldl (fun acc x => if (g.sides.get x).enabled then trackUnion acc (sideTracks x) else acc) (.all false)
  streamList.foldl (fun acc i =>
    if (g.streams.get i).enabled then
      match (g.streams.get i).source with
      | .side _ _ _ => acc
      | .raw ts => trackUnion acc ts
    else acc) sides

/-- The descriptor is an enabled raw stream (spec/01 R13). -/
def Descriptor.isRaw (d : Descriptor) : Bool :=
  d.enabled && match d.source with
    | .side _ _ _ => false
    | .raw _ => true

/-- The pass settings as ARM and RESTART copy them, with the pass nominal step and the coefficient class (spec/03 R44, spec/07
R105, spec/10 R150, spec/11 R174). -/
def PassController.renew (p : PassController) (arming : Bool) : PassController :=
  let nominal := nominalStep p.stored.pass.rate p.stored.pass.factor
  { state := if arming then .armed else .idle, cause := none, startPending := false, armed := arming, stored := p.stored
    pass := p.stored, nominal := nominal, coefficients := classOf nominal, cues := [] }

/-- The sense unit's tacho, stall and splice state cleared; the lines are kept (spec/09 R147). -/
def SenseUnit.renew (u : SenseUnit) : SenseUnit :=
  { lines := u.lines, reference := false, tacho := 0, tLast := none, fresh := false, stalled := false, timer := none, splices := []
    discarded := 0 }

/-- What ARM and RESTART do alike: the settings copied into the pass and every collection of the pass emptied. With `arming` the
converters start, the watched and monitored tracks and the consumers are fixed, and P_eff is the pass's P_nom; without it the
converters stop and these are none (spec/01 R17, spec/02 R41, spec/03 R55, spec/04 R73, spec/05 R88, spec/07 R117, spec/08 R131,
spec/09 R147, spec/10 R150, spec/11 R174). -/
def State.renewPass (s : State) (arming : Bool) : State :=
  let p := s.psc.renew arming
  { s with
    psc := p
    cfe :=
      { converter := if arming then .settling else .stopped, settleCount := if arming then Config.settleLength else 0
        wideCount := 0, gathered := [], watched := if arming then watchedTracks p.pass else .all false, clip := .all .idle }
    crg :=
      { rings := .all [], w := 0, e := none, sideConsumer := p.pass.sides.map fun g => arming && g.enabled
        streamConsumer := p.pass.streams.map fun d => arming && d.isRaw, sideLost := .all false, streamLost := .all false }
    rtr := p.pass.sides.map fun g => .fresh g p.nominal (if arming then g.pNom else 0)
    lvm := (PerTrack.all ()).mapIdx fun t _ =>
      .fresh (p.pass.sides.get t.side) (arming && (p.pass.sides.get t.side).enabled)
    dfl := .empty
    rsp := s.rsp.map .fresh
    sas := .all .cleared
    sns := s.sns.renew }

/-- The effect of an accepted ARM (spec/10 R150). -/
def State.armPass (s : State) : State :=
  (s.renewPass true).notify (.pass .armed none 0) 0

/-- The restart (spec/11 R174): the output queue and the notice queue are emptied, every sticky flag is disarmed, and a PASS notice
for IDLE is the queue's only one. -/
def State.restartPart (s : State) : State :=
  let t := s.renewPass false
  { t with
    oq := .empty
    sns := { t.sns with lines := t.sns.lines.map fun l => { l with sticky := .disarmed } }
    notices := ⟨[⟨.pass .idle none 0, 0⟩], 0⟩ }

/-- The part in or just after line reset: `State.reset` with the lines' debounced levels, keeping only the queue of commands and the
model's clock (spec/11 R175, spec/09 R134). -/
def State.lineResetPart (s : State) (held : Bool) (levels : PerLine Bool) : State :=
  { State.reset with
    pending := s.pending
    clock := ⟨s.clock.ticks, held⟩
    sns := { State.reset.sns with lines := levels.map fun b => ⟨b, 0, .disarmed⟩ } }

/-! ### Entry into RUNNING -/

/-- The stall timer's full value, when the stall monitor runs in the pass (spec/09 R142). -/
def Settings.stallTimer (g : Settings) : Option Nat :=
  if g.pass.stallCount = 0 then none
  else match g.tachoLine with
    | some _ => some (g.pass.stallCount * 1024)
    | none => none

/-- Boundary 0: the SOURCE, then the LIFT and GMAX cues due on the enabled sides (spec/10 R151, log 18). -/
def State.boundaryZero (s : State) : State :=
  let t := Side.list.foldl (fun u x => if u.sideOn x then u.takeSourceCues x 0 else u) s
  Side.list.foldl (fun u x => if u.sideOn x then u.takeLevelCues x 0 else u) t

/-- The blocks' values at the entry into RUNNING (spec/01 R17, spec/02 R41, spec/04 R73, spec/07 R117, spec/08 R131, spec/09
R147). -/
def State.beginCapture (s : State) : State :=
  { s with
    psc := { s.psc with state := .running, startPending := false }
    cfe := { s.cfe with converter := .capturing, settleCount := 0, wideCount := 0, gathered := [] }
    rtr := s.rtr.mapIdx fun x t => t.enterRunning (s.sideOn x) s.psc.nominal
    lvm := s.lvm.map .enterRunning
    rsp := s.rsp.mapIdx fun x r => { r with state := if s.sideOn x then .active else .off }
    sas := s.sas.mapIdx fun i t => t.enterRunning (s.psc.pass.streams.get i).enabled
    sns := { s.sns with reference := false, tacho := 0, stalled := false, timer := s.psc.pass.stallTimer } }

/-- The entry into RUNNING (spec/10 R151). -/
def State.enterRunning (s : State) : State :=
  (s.beginCapture.notify (.pass .running none 0) 0).boundaryZero.testGates

/-- A start request in ARMED: capture begins when the converters are settled, else the start becomes pending (spec/10 R151). -/
def State.startRequest (s : State) : State :=
  if s.cfe.converter = .settled then s.enterRunning
  else { s with psc := { s.psc with startPending := true } }

/-- The settle end: the converters are settled, and a pending start enters RUNNING (spec/01 R2, spec/10 R151). -/
def State.settleEnd (s : State) : State :=
  let t := { s with cfe := { s.cfe with converter := .settled, settleCount := 0 } }
  if t.psc.startPending then t.enterRunning else t

/-! ### End of capture -/

/-- The converters stop: an incomplete group is discarded and the settle count is 0 (spec/01 R1, R7). -/
def State.stopConverters (s : State) : State :=
  { s with cfe := { s.cfe with converter := .stopped, settleCount := 0, gathered := [] } }

/-- The pending splices discarded and counted, and the stall monitor stopped (spec/09 R142, R146). -/
def SenseUnit.endCapture (u : SenseUnit) : SenseUnit :=
  { u with splices := [], discarded := min 255 (u.discarded + u.splices.length), timer := none }

/-- Every open LOST span closed (spec/01 R7, R15). -/
def State.closeLosses (s : State) : State :=
  streamList.foldl .closeStreamLoss (Side.list.foldl .closeSideLoss s)

/-- What every end of capture does: E is the capture index, the converters stop, the clip runs and LOST spans end, the pending splices
are discarded (spec/01 R7, spec/09 R146). -/
def State.stopCapture (s : State) : State :=
  let t := { s.stopConverters with crg := { s.crg with e := some s.crg.w }, sns := s.sns.endCapture }
  t.clipFinish.closeLosses

/-- The end of capture into DRAINING with an end cause (spec/10 R152): PASS notice, the end at every block, and the end marks of raw
streams that have nothing left. -/
def State.endCapture (s : State) (cause : EndCause) : State :=
  let e := s.crg.w
  let s1 := { s with psc := { s.psc with state := .draining, cause := some cause } }.notify (.pass .draining (some cause) 0) e
  let s2 := ((s1.stopCapture.trackFinish e).levelFinish e).settleDefects
  let s3 := (s2.drainSide .A e).drainSide .B e
  (s3.endMarks (s3.rawAtEnd e)).testGates

/-! ### The end of a pass -/

/-- The entry into ENDED: pending cues are discarded and counted, the PASS notice is queued, every entry settles and every side's lock
is OFF (spec/10 R154, spec/05 R86, spec/02 R27). -/
def State.enterEnded (s : State) (cause : Option EndCause) : State :=
  let t := { s with
    psc := { s.psc with state := .ended, cause := cause, startPending := false, cues := [] }
    dfl := s.dfl.settleAll
    rtr := s.rtr.map .enterEnded }
  (t.notify (.pass .ended cause s.psc.cues.length) (s.crg.e.getD 0)).testGates

/-- A resampler still DRAINING becomes FINISHED. -/
def Resampler.finishDraining (r : Resampler) : Resampler :=
  if r.state = .draining then { r with state := .finished } else r

/-- Completion of draining: a side still draining feeds no stream and is finished with the pass (spec/10 R154, spec/07 R117, log
16). -/
def State.completeDraining (s : State) : State :=
  { s with rsp := s.rsp.map .finishDraining }.enterEnded s.psc.cause

/-- The resamplers and streams at an ABORT (spec/07 R100, spec/08 R130). -/
def State.abortOutput (s : State) : State :=
  { s with
    rsp := s.rsp.map fun (r : Resampler) => { r with state := .off }
    sas := s.sas.map .abort
    oq := { s.oq with granted := [] } }

/-- ABORT from RUNNING: capture ends without a window close or final block (spec/10 R153, spec/04 R72). -/
def State.abortRunning (s : State) : State :=
  s.stopCapture.levelAbort.abortOutput.enterEnded (some .aborted)

/-- ABORT from DRAINING (spec/10 R153). -/
def State.abortDraining (s : State) : State :=
  s.abortOutput.enterEnded (some .aborted)

/-- The return from ARMED to IDLE: the converters stop, the cues are discarded and counted, the PASS notice is queued (spec/10 R152,
R161). -/
def State.returnToIdle (s : State) : State :=
  { s.stopConverters with psc := { s.psc with state := .idle, startPending := false, cues := [] } }.notify
    (.pass .idle none s.psc.cues.length) 0

end Sys2Proof.Machine
end

