-- ==== Sys2Proof/Machine/Sense.lean ====
section
/-! DEFINITION. The sense unit's events (spec/09): an accepted change of a line, its sticky flag and its action, the tacho period, the
pending splices, the stall monitor. -/

namespace Sys2Proof.Machine

/-! ### Splices and marks -/

/-- A SPLICE span produced at w on the watched tracks, as long as the pass's splice guard (spec/09 R144). -/
def State.produceSplice (s : State) (untimed : Bool) : State :=
  s.report (.span ⟨.splice, s.cfe.watched, s.crg.w, s.psc.pass.pass.spliceGuard, none, none, none, untimed, none⟩)

/-- `n` SPLICE spans produced one after another. -/
def State.produceSplices (s : State) (untimed : Bool) : Nat → State
  | 0 => s
  | n + 1 => (s.produceSplice untimed).produceSplices untimed n

/-- A SPLICE line event in RUNNING: the first case of R144's table that applies. -/
def State.spliceEvent (s : State) : State :=
  if s.psc.pass.pass.spliceLead = 0 then s.produceSplice false
  else if s.psc.pass.tachoLine = none then s.produceSplice false
  else if s.sns.stalled then s.produceSplice true
  else if Config.spliceEntries ≤ s.sns.splices.length then s.produceSplice true
  else { s with sns := { s.sns with splices := s.sns.splices ++ [s.psc.pass.pass.spliceLead] } }

/-- A MARK line event in RUNNING: a MARK span of length 0 at w on the watched tracks (spec/09 R139). -/
def State.markEvent (s : State) : State :=
  s.report (.span ⟨.mark, s.cfe.watched, s.crg.w, 0, none, none, none, false, none⟩)

/-! ### Tacho and stall -/

/-- What a TACHO line event does to the tacho state while no stall is declared: it becomes the reference, or ends a period (spec/09
R140). A period is recorded from 1 (log 19). -/
def SenseUnit.measure (u : SenseUnit) : SenseUnit :=
  if u.reference then { u with tLast := some (max 1 u.tacho), fresh := true, tacho := 0 }
  else { u with reference := true, tacho := 0 }

/-- How many pending splices a tacho pulse brings to 0 (spec/09 R145). -/
def SenseUnit.arriving (u : SenseUnit) : Nat :=
  (u.splices.filter fun d => decide (d ≤ 1)).length

/-- The pending splices lowered by one tacho pulse; those that reach 0 leave the queue (spec/09 R145). -/
def SenseUnit.countDown (u : SenseUnit) : SenseUnit :=
  { u with splices := (u.splices.filter fun d => !decide (d ≤ 1)).map (· - 1) }

/-- A TACHO line event in RUNNING while no stall is declared: the period, the stall timer reloaded, the splices (spec/09 R140, R142,
R145). -/
def State.tachoPulse (s : State) : State :=
  { s with sns := { s.sns.measure.countDown with timer := s.psc.pass.stallTimer } }.produceSplices false s.sns.arriving

/-- The sense unit after the TACHO line event that ends a stall (spec/09 R143). -/
def SenseUnit.endStall (u : SenseUnit) (timer : Option Nat) : SenseUnit :=
  { u with stalled := false, reference := true, tacho := 0, timer := timer }

/-- A TACHO line event of line `i` in RUNNING (spec/09 R140, R143). -/
def State.tachoEvent (s : State) (i : Fin 6) : State :=
  if s.sns.stalled then
    { s with sns := s.sns.endStall s.psc.pass.stallTimer }.notify (.stall false i) s.crg.w
  else s.tachoPulse

/-- The sense unit at the declaration of a stall, steps 1 to 3 of R142. -/
def SenseUnit.beginStall (u : SenseUnit) : SenseUnit :=
  { u with stalled := true, timer := none, fresh := false, reference := false, splices := [] }

/-- The stall monitor can declare a stall: it runs and no stall is declared (spec/09 R142). -/
def State.stallArmed (s : State) : Bool :=
  decide (s.psc.state = .running) && s.sns.timer.isSome && !s.sns.stalled

/-- The expiry of the stall timer (spec/09 R142): the stall, the splices flushed untimed, the notice, and with stop-on-stall the end
of capture. -/
def State.declareStall (s : State) : State :=
  let t := { s with sns := s.sns.beginStall }.produceSplices true s.sns.splices.length
  let u := match s.psc.pass.tachoLine with
    | some i => t.notify (.stall true i) t.crg.w
    | none => t
  if s.psc.pass.pass.stopOnStall then u.endCapture .stall else u

/-! ### Line events -/

/-- A change to the level `high` matches an edge setting (spec/09 R135). -/
def Edge.admits (e : Edge) (high : Bool) : Bool :=
  match e with
  | .rise => high
  | .fall => !high
  | .both => true

/-- A line whose change has been accepted (spec/09 R134). -/
def Line.change (l : Line) : Line :=
  { l with level := !l.level, count := 0 }

/-- The sticky flag of line `i` at a line event: an ARMED flag trips, and queues a LINE notice if the line's notice is on (spec/09
R136). Here and below the line's setting is its pass copy, since a stored setting takes effect at the next ARM or RESTART (spec/11
R169, R174, log 10). -/
def State.tripLine (s : State) (i : Fin 6) : State :=
  let l := s.sns.lines.get i
  if l.sticky = .armed then
    let t := { s with sns := { s.sns with lines := s.sns.lines.set i { l with sticky := .tripped } } }
    if (s.psc.pass.lines.get i).notice then t.notify (.line i l.level) s.crg.w else t
  else s

/-- The action of a line event of line `i`, in the pass states that admit it (spec/09 R135, R138). -/
def State.lineAction (s : State) (i : Fin 6) : State :=
  match (s.psc.pass.lines.get i).action with
  | .none => s
  | .tacho => if s.psc.state = .running then s.tachoEvent i else s
  | .start => if s.psc.state = .armed then s.startRequest else s
  | .stop =>
    if s.psc.state = .armed then s.returnToIdle
    else if s.psc.state = .running then s.endCapture .endLine
    else s
  | .mark => if s.psc.state = .running then s.markEvent else s
  | .splice => if s.psc.state = .running then s.spliceEvent else s

/-- A change of line `i` accepted: the debounced level moves, and a change that matches the line's edge is a line event (spec/09 R134,
R135). R135 names the trip and the action in no order; the trip, with its LINE notice, is taken before the action and its notices
(log 6). -/
def State.acceptChange (s : State) (i : Fin 6) : State :=
  let l := (s.sns.lines.get i).change
  let t := { s with sns := { s.sns with lines := s.sns.lines.set i l } }
  if (s.psc.pass.lines.get i).edge.admits l.level then (t.tripLine i).lineAction i else t

/-- One sample of line `i` (spec/09 R134). A count that a new pass's shorter debounce leaves above the setting accepts as one that
equals it (log 10). -/
def State.sampleLine (s : State) (i : Fin 6) (high : Bool) : State :=
  let l := s.sns.lines.get i
  if high = l.level then { s with sns := { s.sns with lines := s.sns.lines.set i { l with count := 0 } } }
  else if (s.psc.pass.lines.get i).debounce ≤ l.count then s.acceptChange i
  else { s with sns := { s.sns with lines := s.sns.lines.set i { l with count := l.count + 1 } } }

end Sys2Proof.Machine
end

