-- ==== Sys2Proof/Machine/EngineEvents.lean ====
section
/-! DEFINITION. The events of the part's own blocks: the converters, the limit, draining, the resamplers, the raw streams, the output
queue, the sense lines and the stall timer (spec/95). An event that the block cannot raise in the state it finds has no effect (log
8). -/

namespace Sys2Proof.Machine

/-- The settle count reaches 0 in SETTLING (spec/01 R2). -/
def execSettleEnd (s : State) : Host.Outcome State Fault Refusal :=
  .next (if s.cfe.converter = .settling then s.settleEnd else s)

/-- The tacho count while its reference is held in RUNNING: `n` wide ticks later, staying at 65,535 (spec/09 R140). -/
def SenseUnit.countTicks (u : SenseUnit) (n : Nat) : SenseUnit :=
  { u with tacho := if u.reference then min 65535 (u.tacho + n) else u.tacho }

/-- The stall timer `n` wide ticks later, not below 1: its expiry is an event of its own (spec/09 R142, log 7). -/
def SenseUnit.runTimer (u : SenseUnit) (n : Nat) : SenseUnit :=
  { u with timer := u.timer.map fun t => max 1 (t - n) }

/-- The wide ticks that the open group still lacks pass at the tacho count and the stall timer (spec/01 R3, log 7). -/
def State.passTicks (s : State) : State :=
  let n := 4 - s.cfe.gathered.length
  { s with sns := (s.sns.countTicks n).runTimer n }

/-- The converters can complete a group (spec/01 R1, R6). -/
def State.capturing (s : State) : Bool :=
  decide (s.cfe.converter = .capturing) && decide (s.crg.w < Config.captureLimit)

/-- A group of four wide samples is complete (spec/01 R3). -/
def execGroupEvent (samples : WideGroup) (s : State) : Host.Outcome State Fault Refusal :=
  .next (if s.capturing then s.passTicks.group samples else s)

/-- The capture index has reached its limit in RUNNING (spec/01 R6, spec/10 R152). -/
def State.atLimit (s : State) : Bool :=
  decide (s.psc.state = .running) && decide (s.crg.w = Config.captureLimit)

/-- The limit event ends capture with cause LIMIT (spec/01 R6, spec/10 R152). -/
def execLimitEvent (s : State) : Host.Outcome State Fault Refusal :=
  .next (if s.atLimit then s.endCapture .limit else s)

/-- Every enabled stream has emitted its final block in DRAINING (spec/08 R126, spec/10 R154). -/
def State.completing (s : State) : Bool :=
  decide (s.psc.state = .draining) && s.drained

/-- The completion report: the pass enters ENDED (spec/10 R154). -/
def execCompletionOfDraining (s : State) : Host.Outcome State Fault Refusal :=
  .next (if s.completing then s.completeDraining else s)

/-- The resampler of a side tries its gate, and produces a frame when it admits (spec/07 R101 to R104). -/
def execProduceFrame (side : Side) (s : State) : Host.Outcome State Fault Refusal :=
  .next (if s.gateOpen side then (s.frame side).testGates else s.testGates)

/-- A raw stream takes the sample group at its next unread index (spec/08 R122). -/
def execTakeSampleGroup (stream : Fin 8) (s : State) : Host.Outcome State Fault Refusal :=
  .next (match s.rawReady stream with
    | some ts => (s.takeGroup stream ts).testGates
    | none => s)

/-- The stream that a freed slot was granted to takes it, and the gates are tested again (spec/08 R128, spec/07 R103). -/
def execSlotGrant (s : State) : Host.Outcome State Fault Refusal :=
  .next s.grantSlot.testGates

/-- A change of a sense line is accepted (spec/09 R134); while RESET is held the lines are not sampled (spec/11 R175). -/
def execLineChangeAccepted (line : Fin 6) (s : State) : Host.Outcome State Fault Refusal :=
  .next (if s.clock.lineReset then s else s.acceptChange line)

/-- The stall timer expires (spec/09 R142). -/
def execStallExpiry (s : State) : Host.Outcome State Fault Refusal :=
  .next (if s.stallArmed then s.declareStall else s)

end Sys2Proof.Machine
end

