-- ==== Sys2Proof/Machine/Clock.lean ====
section
/-! DEFINITION. What the part does by itself when no command waits: an event of its own blocks that is due, or else one wide tick
(spec/00, log 2). -/

namespace Sys2Proof.Machine

/-! ### Events that are due -/

/-- The events the blocks raise by themselves between two wide ticks (log 2). -/
inductive DueEvent where
  | limit
  | grant
  | frame (x : Side)
  | take (i : Fin 8)
  | completion
  deriving DecidableEq, Repr

/-- A waiting stream can be granted a slot (spec/08 R128). -/
def State.grantDue (s : State) : Bool :=
  !s.waiting.isEmpty && decide (s.oq.blocks.length < Config.queueBlocks)

/-- The event of the part's own blocks that is due first, if any (log 2). -/
def State.due (s : State) : Option DueEvent :=
  if s.atLimit then some .limit
  else if s.grantDue then some .grant
  else match Side.list.find? s.gateOpen with
    | some x => some (.frame x)
    | none => match streamList.find? fun i => (s.rawReady i).isSome with
      | some i => some (.take i)
      | none => if s.completing then some .completion else none

/-- A due event taken. -/
def State.takeDue (s : State) : DueEvent → State
  | .limit => s.endCapture .limit
  | .grant => s.grantSlot.testGates
  | .completion => s.completeDraining
  | .frame x => (s.frame x).testGates
  | .take i => match s.rawReady i with
    | some ts => (s.takeGroup i ts).testGates
    | none => s

/-! ### The wide tick -/

/-- What stands on the four track inputs at the model's tick (log 3). -/
def State.inputs (s : State) : PerTrack (BitVec 24) :=
  (PerTrack.all ()).mapIdx fun t _ => Config.trackInput s.clock.ticks t

/-- The group of three gathered wide sample times and the one now converted (spec/01 R3). -/
def gatheredGroup (a b c d : PerTrack (BitVec 24)) : WideGroup :=
  (PerTrack.all ()).mapIdx fun t _ => ⟨a.get t, b.get t, c.get t, d.get t⟩

/-- One wide sample time in CAPTURING: the fourth sample of a group completes it (spec/01 R3). -/
def State.convert (s : State) (x : PerTrack (BitVec 24)) : State :=
  match s.cfe.gathered with
  | [a, b, c] => s.group (gatheredGroup a b c x)
  | g => { s with cfe := { s.cfe with gathered := g ++ [x], wideCount := s.cfe.wideCount + 1 } }

/-- One wide sample time at the converters (spec/01 R1, R2). -/
def State.tickConverters (s : State) : State :=
  match s.cfe.converter with
  | .stopped => s
  | .settled => s
  | .settling =>
    let t := { s with cfe := { s.cfe with settleCount := s.cfe.settleCount - 1 } }
    if t.cfe.settleCount = 0 then t.settleEnd else t
  | .capturing => if s.crg.w < Config.captureLimit then s.convert s.inputs else s

/-- One wide tick at the tacho count and the stall timer (spec/09 R140, R142). -/
def State.tickSense (s : State) : State :=
  if s.psc.state = .running then
    let t := { s with sns := s.sns.countTicks 1 }
    match t.sns.timer with
    | some n =>
      if n ≤ 1 then t.declareStall else { t with sns := { t.sns with timer := some (n - 1) } }
    | none => t
  else s

/-- One wide tick at the six lines, in ascending order (spec/09 R134). -/
def State.tickLines (s : State) : State :=
  lineList.foldl (fun t i => t.sampleLine i (Config.lineInput s.clock.ticks i)) s

/-- One wide tick at the converters, and then at the tacho count and the stall timer of a pass that was RUNNING before it: what happens
at tick t sees the capture index floor((t + 1) / 4) (spec/09, section 9.9; log 2). -/
def State.tickBlocks (s : State) : State :=
  if s.psc.state = .running then s.tickConverters.tickSense else s.tickConverters

/-- One wide tick: the converters, the tacho count and the stall timer, the lines (log 2). -/
def State.wideTick (s : State) : State :=
  let t := s.tickBlocks.tickLines
  { t with clock := { t.clock with ticks := s.clock.ticks + 1 } }

/-- What the part does by itself: nothing while RESET is held, the event that is due, or one wide tick (log 2). -/
def State.idle (s : State) : State :=
  if s.clock.lineReset then s
  else match s.due with
    | some e => s.takeDue e
    | none => s.wideTick

end Sys2Proof.Machine
end

