-- ==== Sys2Proof/Machine/Operands.lean ====
section
/-! DEFINITION. The operand forms: the fields of request payloads (spec/11 R176), read with the validation and the clamping the rules
give (spec/02 R18, spec/03 R43, R48, spec/04 R56, spec/08 R118, spec/09 R133, spec/10 R157, R160, spec/11 R169). A reader answers none
where the request is refused with BAD_VALUE. -/

namespace Sys2Proof.Machine

/-- The field of `n` bytes at offset `at` of a payload (spec/11 R176). -/
def field (p : List Byte) (offset n : Nat) : Nat :=
  natOfBytes ((p.drop offset).take n)

/-! ### Enumerated fields -/

/-- The value of the list whose code is `n`. -/
def ofCode {α : Type} (code : α → Nat) (values : List α) (n : Nat) : Option α :=
  values.find? fun v => decide (code v = n)

/-- A yes or no, an on or off: 0 or 1 (spec/11 R169). -/
def boolOf : Nat → Option Bool :=
  ofCode boolCode [false, true]

/-- A side. -/
def sideOf : Nat → Option Side :=
  ofCode sideCode Side.list

/-- A side source. -/
def sourceOf : Nat → Option SideSource :=
  ofCode SideSource.code [.none, .biasL, .biasR, .biasBoth, .deck]

/-- A skew mode. -/
def skewModeOf : Nat → Option SkewMode :=
  ofCode SkewMode.code [.manual, .auto]

/-- A detect band. -/
def bandOf : Nat → Option DetectBand :=
  ofCode DetectBand.code [.reference, .programme]

/-- A sample format. -/
def formatOf : Nat → Option SampleFormat :=
  ofCode SampleFormat.code [.s16, .s24, .s32]

/-- A line action. -/
def actionOf : Nat → Option LineAction :=
  ofCode LineAction.code [.none, .tacho, .start, .stop, .mark, .splice]

/-- An edge. -/
def edgeOf : Nat → Option Edge :=
  ofCode Edge.code [.rise, .fall, .both]

/-- A stream number. -/
def streamOf : Nat → Option (Fin 8) :=
  ofCode Fin.val streamList

/-- A line number. -/
def lineOf : Nat → Option (Fin 6) :=
  ofCode Fin.val lineList

/-- An enumerated number. -/
def oneOf (values : List Nat) (n : Nat) : Option Nat :=
  ofCode id values n

/-- A track mask naming 1 to 4 tracks (spec/08 R118, spec/10 R157). -/
def maskOf (n : Nat) : Option TrackSet :=
  if 0 < n ∧ n < 16 then some (trackSetOf n) else none

/-- A line mask: a set bit 6 or 7 is refused (spec/09 R137, spec/11 R176). -/
def lineMaskOf (n : Nat) : Option (PerLine Bool) :=
  if n < 64 then some ⟨n.testBit 0, n.testBit 1, n.testBit 2, n.testBit 3, n.testBit 4, n.testBit 5⟩ else none

/-- A stream source with channels that suit it (spec/08 R118). -/
def streamSourceOf (source channels : Nat) : Option StreamSource :=
  match source with
  | 0 => if 0 < channels ∧ channels < 4 then some (.side .A (channels.testBit 0) (channels.testBit 1)) else none
  | 1 => if 0 < channels ∧ channels < 4 then some (.side .B (channels.testBit 0) (channels.testBit 1)) else none
  | 2 => (maskOf channels).map .raw
  | _ => none

/-! ### Settings requests -/

/-- P_nom as it is stored: 0, or 768 to 65,535 (spec/02 R18). -/
def clampPNom (n : Nat) : Nat :=
  if n = 0 then 0 else clampNat n 768 65535

/-- The numeric fields of a side's settings in their ranges, D_thr before R_thr (spec/02 R18, spec/04 R56). -/
def SideSettings.clamped (g : SideSettings) : SideSettings :=
  let d := clampNat g.dThr 256 3584
  { g with
    pNom := clampPNom g.pNom, tNom := clampNat g.tNom 32 65535, confirm := clampNat g.confirm 1 16
    holdLimit := clampNat g.holdLimit 1 255, acquire := clampNat g.acquire 1 64, dThr := d
    rThr := clampNat g.rThr (d + 1) 4095, gMax := clampNat g.gMax 4096 16384 }

/-- The numeric fields of the pass settings in their ranges (spec/09 R133, spec/11 R173). -/
def PassSettings.clamped (g : PassSettings) : PassSettings :=
  { g with
    spliceLead := clampNat g.spliceLead 0 4095, spliceGuard := clampNat g.spliceGuard 1 65535
    highWater := clampNat g.highWater 1 64 }

/-- The side and the settings a SET_SIDE payload carries, before clamping (spec/11 R176). -/
def sideRequest (p : List Byte) : Option (Side × SideSettings) := do
  let x ← sideOf (field p 0 1)
  let enabled ← boolOf (field p 1 1)
  let source ← sourceOf (field p 2 1)
  let window ← oneOf [256, 512, 1024, 2048] (field p 7 2)
  let speedWindow ← oneOf [20, 40, 80, 125] (field p 9 1)
  let smoothing ← oneOf [1, 3, 5, 7] (field p 10 1)
  let skewMode ← skewModeOf (field p 14 1)
  let detectBand ← bandOf (field p 15 1)
  let debounce ← oneOf [1, 4, 16, 64] (field p 20 1)
  let lift ← boolOf (field p 21 1)
  some (x,
    { enabled := enabled, source := source, pNom := field p 3 2, tNom := field p 5 2, window := window
      speedWindow := speedWindow, smoothing := smoothing, confirm := field p 11 1, holdLimit := field p 12 1
      acquire := field p 13 1, skewMode := skewMode, detectBand := detectBand, dThr := field p 16 2, rThr := field p 18 2
      debounce := debounce, lift := lift, gMax := field p 22 2 })

/-- The pass settings a SET_PASS payload carries, before clamping (spec/11 R176). -/
def passRequest (p : List Byte) : Option PassSettings := do
  let rate ← oneOf [48000, 96000, 192000] (field p 0 3)
  let factor ← oneOf [1, 2] (field p 3 1)
  let stopOnStall ← boolOf (field p 5 1)
  let noticeAttention ← boolOf (field p 11 1)
  some
    { rate := rate, factor := factor, stallCount := field p 4 1, stopOnStall := stopOnStall, spliceLead := field p 6 2
      spliceGuard := field p 8 2, highWater := field p 10 1, noticeAttention := noticeAttention }

/-- The stream and the descriptor a SET_STREAM payload carries (spec/11 R176). -/
def streamRequest (p : List Byte) : Option (Fin 8 × Descriptor) := do
  let i ← streamOf (field p 0 1)
  let enabled ← boolOf (field p 1 1)
  let source ← streamSourceOf (field p 2 1) (field p 3 1)
  let format ← formatOf (field p 4 1)
  let frames ← oneOf [128, 256, 512, 1024] (field p 5 2)
  some (i, { enabled := enabled, source := source, format := format, framesPerBlock := frames })

/-- The line and the setting a SET_LINE payload carries (spec/11 R176). -/
def lineRequest (p : List Byte) : Option (Fin 6 × LineSetting) := do
  let i ← lineOf (field p 0 1)
  let action ← actionOf (field p 1 1)
  let edge ← edgeOf (field p 2 1)
  let debounce ← oneOf [0, 32, 512, 8192] (field p 3 2)
  let notice ← boolOf (field p 5 1)
  some (i, { action := action, edge := edge, debounce := debounce, notice := notice })

/-! ### Cue requests -/

/-- A byte as a signed number (spec/11 R176). -/
def signedByte (n : Nat) : Int :=
  (BitVec.ofNat 8 n).toInt

/-- The P_nom of a SOURCE cue as sent: its presence byte, and its value when present (spec/10 R157, spec/11 R176). -/
def cuePNom (presence value : Nat) : Option (Option Nat) :=
  (boolOf presence).map fun b => if b then some value else none

/-- What a cue of a kind and target sets, from its four value bytes, before clamping (spec/10 R157, spec/11 R176). -/
def cueBodyOf (kind target : Nat) (value : List Byte) : Option CueBody :=
  match kind with
  | 1 => do
    let x ← sideOf target
    let source ← sourceOf (field value 0 1)
    let p ← cuePNom (field value 1 1) (field value 2 2)
    some (.source x source p)
  | 2 => do
    let x ← sideOf target
    let on ← boolOf (field value 0 1)
    some (.lift x on)
  | 3 => (sideOf target).map fun x => .gMax x (field value 0 2)
  | 4 => (sideOf target).map fun x => .skew x (signedByte (field value 0 1))
  | 5 => (maskOf target).map .mark
  | _ => none

/-- A cue's numeric value in its range (spec/10 R157). -/
def CueBody.clamped : CueBody → CueBody
  | .source x s p => .source x s (p.map clampPNom)
  | .lift x on => .lift x on
  | .gMax x v => .gMax x (clampNat v 4096 16384)
  | .skew x v => .skew x (clampInt v (-128) 127)
  | .mark ts => .mark ts

/-- The position and body of a POST_CUE payload, before clamping (spec/11 R176). -/
def cueRequest (p : List Byte) : Option (Nat × CueBody) :=
  (cueBodyOf (field p 5 1) (field p 6 1) (p.drop 7)).map fun b => (field p 0 5, b)

/-- The kind of a cue is known and the target suits it (spec/10 R160). -/
def cueNamed (kind target : Nat) : Bool :=
  match kind with
  | 1 => (sideOf target).isSome
  | 2 => (sideOf target).isSome
  | 3 => (sideOf target).isSome
  | 4 => (sideOf target).isSome
  | 5 => (maskOf target).isSome
  | _ => false

/-- The cue at a position with a target code and a kind code (spec/10 R160). -/
def Cue.named (c : Cue) (position kind target : Nat) : Bool :=
  decide (c.position = position) && decide (c.body.kind = kind) && decide (c.body.targetCode = target)

/-! ### Skew steps -/

/-- The steps of ADJUST_SKEW by code: NOP, UP1, DOWN1, UP16, DOWN16 (spec/06 R90, spec/11 R176). -/
def skewStepOf : Nat → Option Int
  | 0 => some 0
  | 1 => some 1
  | 2 => some (-1)
  | 3 => some 16
  | 4 => some (-16)
  | _ => none

end Sys2Proof.Machine
end

