-- ==== Sys2Proof/Machine/Status.lean ====
section
/-! DEFINITION. The READ_STATUS payload and the identification (spec/11 R171, log 11). -/

namespace Sys2Proof.Machine

/-! ### Fields that may be absent -/

/-- `n` bytes FFh, as an absent value is sent (spec/11 R171). -/
def absentBytes (n : Nat) : List Byte :=
  List.replicate n 0xFF

/-- A field of `n` bytes that may be absent, with its presence byte (spec/11 R171). -/
def maybeBytes (n : Nat) : Option Nat → List Byte
  | some v => 1 :: bytesOfNat n v
  | none => 0 :: absentBytes n

/-- A signed field of `n` bytes that may be absent, with its presence byte (spec/11 R171). -/
def maybeSigned (n : Nat) : Option Int → List Byte
  | some v => 1 :: bytesOfInt n v
  | none => 0 :: absentBytes n

/-- A coded field of one byte that may be absent, with its presence byte (spec/11 R171). -/
def maybeCode : Option Byte → List Byte
  | some b => [1, b]
  | none => 0 :: absentBytes 1

/-- A value that is present only while a side, track or stream is in the pass (spec/11 R171). -/
def whenOn {α : Type} (on : Bool) (v : α) : Option α :=
  if on then some v else none

/-! ### Sections -/

/-- Pass: pass state, end cause, start-pending flag, cue count, first cue (spec/10 R148, R157). -/
def State.statusPass (s : State) : List Byte :=
  code1 s.psc.state.code ++ maybeBytes 1 (s.psc.cause.map (·.code)) ++ code1 (boolCode s.psc.startPending) ++
    code1 s.psc.cues.length ++ maybeBytes 5 (s.psc.cues.head?.map (·.position)) ++
    maybeBytes 1 (s.psc.cues.head?.map (·.body.kind))

/-- Capture: converter state, w, E, pass nominal step, coefficient class (spec/01 R1, R7, spec/03 R44, spec/07 R105). -/
def State.statusCapture (s : State) : List Byte :=
  [Config.converterCode s.cfe.converter] ++ maybeBytes 5 (some s.crg.w) ++ maybeBytes 5 s.crg.e ++ bytesOfNat 4 s.psc.nominal ++
    [Config.classCode s.psc.coefficients]

/-- One side: source, P_eff, lock state; speed bounds, entries written, newest final entry; settled index; base skew; resampler state,
wait cause, I, F, m, passed position, loss mark, and the oldest-needed index while the side is a consumer (spec/01 R13, R17, spec/02
R27, spec/03 R54, spec/04 R67, spec/07 R117). The settled index is sent in 6 bytes, since E + 16 can pass the 5 bytes of an index:
the model's choice (log 11). -/
def State.statusSide (s : State) (x : Side) : List Byte :=
  let on := s.sideOn x
  let t := s.rtr.get x
  let r := s.rsp.get x
  let newest := if on then t.newestFinal (tableSlots (s.psc.pass.sides.get x).window) else none
  maybeBytes 1 (whenOn on t.source.code) ++ maybeBytes 2 (whenOn on t.pEff) ++ maybeBytes 1 (whenOn on t.lock.code) ++
    maybeBytes 4 (whenOn on t.lower) ++ maybeBytes 4 (whenOn on t.upper) ++ maybeBytes 6 (whenOn on t.windows) ++
    maybeBytes 4 (newest.map (·.1)) ++ maybeBytes 4 (newest.map (·.2)) ++ maybeBytes 6 (whenOn on (s.sideSettled x)) ++
    bytesOfInt 1 r.baseSkew ++ maybeCode (whenOn on (Config.resamplerCode r.state)) ++
    maybeCode (whenOn on (Config.waitCode r.wait)) ++ maybeBytes 5 (whenOn on r.index) ++ maybeBytes 3 (whenOn on r.fraction) ++
    maybeBytes 6 (whenOn on r.frames) ++ maybeBytes 5 (if on then r.passed else none) ++
    maybeBytes 1 (whenOn on (boolCode r.loss)) ++ maybeSigned 6 (whenOn (s.crg.sideConsumer.get x) r.oldest)

/-- One track: span state and running level (spec/04 R73). -/
def State.statusTrack (s : State) (t : Track) : List Byte :=
  let on := s.sideOn t.side
  maybeCode (whenOn on (Config.spanCode (s.lvm.get t).state)) ++ maybeBytes 3 (whenOn on (s.lvm.get t).level)

/-- Defect list: entry count, SETTLED count, six unlisted counts, full-notice flag (spec/05 R83). That the six counts go in the order of
the kind rank (R75) is the model's choice (log 11). -/
def State.statusDefects (s : State) : List Byte :=
  bytesOfNat 2 s.dfl.entries.length ++ bytesOfNat 2 (s.dfl.entries.filter (·.isSettled)).length ++
    bytesOfNat 2 s.dfl.unlisted.lost ++ bytesOfNat 2 s.dfl.unlisted.splice ++ bytesOfNat 2 s.dfl.unlisted.refloss ++
    bytesOfNat 2 s.dfl.unlisted.dropout ++ bytesOfNat 2 s.dfl.unlisted.clip ++ bytesOfNat 2 s.dfl.unlisted.mark ++
    [Config.fullFlagCode s.dfl.fullArmed]

/-- One stream: stream state, fill, next emit sequence, discard count, and for a raw stream r, its loss mark, and its
oldest-needed index while it is a consumer (spec/01 R13, R17, spec/08 R132). The next emit sequence is sent in the 5 bytes it has in a
block header: the model's choice (log 11). -/
def State.statusStream (s : State) (i : Fin 8) : List Byte :=
  let on := (s.psc.pass.streams.get i).enabled
  let raw := (s.psc.pass.streams.get i).isRaw
  let st := s.sas.get i
  maybeCode (whenOn on (Config.streamCode st.state)) ++ maybeBytes 2 (whenOn on st.buffer.length) ++
    maybeBytes 5 (whenOn on st.emit) ++ maybeBytes 6 (whenOn on st.discards) ++ maybeBytes 5 (whenOn raw st.r) ++
    maybeSigned 6 (whenOn (s.crg.streamConsumer.get i) (st.r : Int)) ++ maybeBytes 1 (whenOn raw (boolCode st.loss))

/-- Output queue: depth and streams waiting (spec/08 R132). -/
def State.statusQueue (s : State) : List Byte :=
  code1 s.oq.blocks.length ++ code1 s.waiting.length

/-- One line: debounced level and sticky flag (spec/09 R147). -/
def State.statusLine (s : State) (i : Fin 6) : List Byte :=
  code1 (boolCode (s.sns.lines.get i).level) ++ code1 (s.sns.lines.get i).sticky.code

/-- Tacho and splices: TACHO line number, T_last, fresh flag, stall state, entries of the splice queue, the head's remaining distance,
discarded-splice count (spec/09 R147). That the TACHO line number is the pass copies', not the stored settings', is the model's choice
(log 11). -/
def State.statusTacho (s : State) : List Byte :=
  maybeBytes 1 (s.psc.pass.tachoLine.map (·.val)) ++ maybeBytes 2 s.sns.tLast ++ code1 (boolCode s.sns.fresh) ++
    [Config.stallCode s.sns.stalled] ++ code1 s.sns.splices.length ++ maybeBytes 2 s.sns.splices.head? ++
    code1 s.sns.discarded

/-- Notices: notice queue depth, lost-notice count, ATTN level (spec/11 R172, R173). -/
def State.statusNotices (s : State) : List Byte :=
  code1 s.notices.queue.length ++ code1 s.notices.lost ++ code1 (boolCode s.attn)

/-- The READ_STATUS payload (spec/11 R171). -/
def State.status (s : State) : List Byte :=
  s.statusPass ++ s.statusCapture ++ Side.list.flatMap s.statusSide ++ Track.list.flatMap s.statusTrack ++ s.statusDefects ++
    streamList.flatMap s.statusStream ++ s.statusQueue ++ lineList.flatMap s.statusLine ++ s.statusTacho ++ s.statusNotices

/-- The length of the READ_STATUS payload, which IDENT reports (spec/11 R171). -/
def statusLength : Nat := 521

/-- The IDENT payload: part name, revision, capacities, READ_STATUS payload length (spec/11 R171). -/
def identification : List Byte :=
  [0x41, 0x54, 0x34, 0x34, 0x30, 0, 0, 0, 1] ++ bytesOfNat 3 Config.ringSlots ++ bytesOfNat 2 Config.defectEntries ++
    bytesOfNat 2 Config.queueBlocks ++ bytesOfNat 2 Config.cueEntries ++ bytesOfNat 2 Config.noticeEntries ++ bytesOfNat 2 512 ++
    bytesOfNat 2 16416 ++ bytesOfNat 2 statusLength

end Sys2Proof.Machine
end

