-- ==== Sys2Proof/Machine/Link.lean ====
section
/-! DEFINITION. The link port's shared operations (spec/11): taking a request with its checks, forming its reply, and the events of an
exchange. -/

namespace Sys2Proof.Machine

/-! ### Request kinds (spec/11 R168) -/

/-- The kind codes of the table of R168, with the payload length of each. -/
def requestKinds : List (Nat × Nat) :=
  [(0x01, 0), (0x10, 24), (0x11, 12), (0x12, 7), (0x13, 6), (0x20, 2), (0x21, 1), (0x28, 11), (0x29, 7), (0x30, 0), (0x31, 0),
    (0x32, 0), (0x33, 0), (0x40, 0), (0x41, 0), (0x42, 0), (0x48, 0), (0x50, 2), (0x58, 0), (0x7F, 0)]

/-- The code is in the table of R168. -/
def kindKnown (kind : Byte) : Bool :=
  requestKinds.any fun k => decide (k.1 = kind.toNat)

/-! ### Taking a request -/

/-- The link port can take a request: no line reset, and the exchange has not yet had its request. A request with select high stands
for an exchange whose select has just fallen (spec/11 R163, log 9). -/
def State.listening (s : State) : Bool :=
  !s.clock.lineReset &&
    match s.link.phase with
    | .idle => true
    | .hunt => true
    | .request => true
    | .turnaround => false
    | .reply => false
    | .trail => false
    | .ignore => false

/-- What a request's own rule leaves: the state, the reply status and the reply payload (spec/11 R165). -/
structure Answer where
  state : State
  status : Status
  payload : List Byte
  deriving DecidableEq, Repr

/-- A refusal: nothing changes and the reply carries no payload (spec/11 R165). -/
def refuse (s : State) (status : Status) : Answer :=
  ⟨s, status, []⟩

/-- The link port after a request of a kind has been answered (spec/11 R163). -/
def answered (kind : Byte) (status : Status) (payload : List Byte) : LinkPort :=
  ⟨.turnaround, [], 0, some ⟨kind, status, payload⟩⟩

/-- The state with the reply of a request formed: the exchange moves to TURNAROUND (spec/11 R163). -/
def Answer.send (a : Answer) (kind : Byte) : State :=
  { a.state with link := answered kind a.status a.payload }

/-- A request of a kind whose CRC holds, taken in the event of its last CRC byte: the length check, the state check and the request's
own rule (spec/11 R165, checks 3 to 5). -/
def State.takeRequest (s : State) (kind : Byte) (length : Nat) (payload : List Byte) (refusal : Option Status)
    (rule : Answer) : State :=
  if s.listening then
    (if payload.length = length then
      match refusal with
      | some r => refuse s r
      | none => rule
    else refuse s .badLength).send kind
  else s

/-- A request ended by a check before its length: the reply alone (spec/11 R165). -/
def State.rejectRequest (s : State) (kind : Byte) (status : Status) : State :=
  if s.listening then (refuse s status).send kind else s

/-! ### State checks (spec/10 R155) -/

/-- Settings requests are taken in IDLE and ENDED. -/
def State.settingsRefused (s : State) : Option Status :=
  match s.psc.state with
  | .idle => none
  | .ended => none
  | .armed => some .state
  | .running => some .state
  | .draining => some .state

/-- ARM is taken in IDLE, and in ENDED with the output queue empty. -/
def State.armRefused (s : State) : Option Status :=
  match s.psc.state with
  | .idle => none
  | .ended => if s.oq.blocks.isEmpty then none else some .state
  | .armed => some .state
  | .running => some .state
  | .draining => some .state

/-- START is refused with STATE outside ARMED and RUNNING. -/
def State.startRefused (s : State) : Option Status :=
  match s.psc.state with
  | .armed => none
  | .running => none
  | .idle => some .state
  | .draining => some .state
  | .ended => some .state

/-- STOP and ABORT are refused with STATE in IDLE and ENDED. -/
def State.stopRefused (s : State) : Option Status :=
  match s.psc.state with
  | .armed => none
  | .running => none
  | .draining => none
  | .idle => some .state
  | .ended => some .state

/-- POST_CUE and DROP_CUE are refused with STATE in IDLE and ENDED. -/
def State.cuesRefused (s : State) : Option Status :=
  match s.psc.state with
  | .armed => none
  | .running => none
  | .draining => none
  | .idle => some .state
  | .ended => some .state

/-- DISCARD is taken in ENDED only. -/
def State.discardRefused (s : State) : Option Status :=
  match s.psc.state with
  | .ended => none
  | .idle => some .state
  | .armed => some .state
  | .running => some .state
  | .draining => some .state

/-- The reply payload of ARM, START, STOP and ABORT: pass state and start-pending flag (spec/10 R155, spec/11 R168). -/
def State.passReply (s : State) : List Byte :=
  code1 s.psc.state.code ++ code1 (boolCode s.psc.startPending)

/-- The stored settings replaced. -/
def State.store (s : State) (g : Settings) : State :=
  { s with psc := { s.psc with stored := g } }

/-- OK, or ADJUSTED when the stored value differs from the one sent (spec/11 R169). -/
def storedStatus (clamped : Bool) : Status :=
  if clamped then .adjusted else .ok

/-! ### Events of an exchange -/

/-- The exchange holds an OK reply of a kind that has not been clocked out to its end (spec/11 R163, R166). -/
def State.inFlight (s : State) (kind : Byte) : Bool :=
  !s.clock.lineReset &&
    (match s.link.phase with
      | .turnaround => true
      | .reply => true
      | .idle => false
      | .hunt => false
      | .request => false
      | .trail => false
      | .ignore => false) &&
    match s.link.reply with
    | some r => decide (r.kind = kind) && decide (r.status = .ok)
    | none => false

/-- The reply is complete: the exchange is in TRAIL (spec/11 R163). -/
def State.trail (s : State) : State :=
  { s with link := { s.link with phase := .trail } }

/-- What a reply cut short leaves: the carried marks of a TAKE_DEFECTS are cleared, and a RESTART takes effect (spec/05 R84, spec/11
R166, R174). -/
def State.cutShort (s : State) : State :=
  if s.inFlight 0x42#8 then { s with dfl := s.dfl.clearCarried }
  else if s.inFlight 0x7F#8 then s.restartPart
  else s

end Sys2Proof.Machine
end

