-- ==== Sys2Proof/Machine/CueRequests.lean ====
section
/-! DEFINITION. The cue requests POST_CUE and DROP_CUE (spec/10 R157, R158, R160). -/

namespace Sys2Proof.Machine

/-- An owner whose greatest boundary is `b` has passed position `q` (spec/10 R158). -/
def passedBy (b : Option Nat) (q : Nat) : Bool :=
  match b with
  | some n => decide (q ≤ n)
  | none => false

/-- The owner of a cue has passed position `q` (spec/10 R158). -/
def State.cueLate (s : State) (q : Nat) : CueBody → Bool
  | .source x _ _ => passedBy (s.rtr.get x).boundary q
  | .lift x _ => passedBy (s.lvm.get x.left).boundary q
  | .gMax x _ => passedBy (s.lvm.get x.left).boundary q
  | .skew x _ => passedBy (s.rsp.get x).passed q
  | .mark _ => decide (q < s.crg.w)

/-- The status of a cue taken into the list: LATE before ADJUSTED before OK (spec/10 R157). -/
def cueStatus (late clamped : Bool) : Status :=
  if late then .late else storedStatus clamped

/-- A cue put into the list in place of an equal one, or at its place in the order (spec/10 R157). -/
def cuePut (c : Cue) (cs : List Cue) : List Cue :=
  cueInsert c (cs.filter fun d => !d.same c)

/-- POST_CUE's own rule (spec/10 R157). -/
def State.postCue (s : State) (p : List Byte) : Answer :=
  match cueRequest p with
  | none => refuse s .badValue
  | some (q, b) =>
    let c : Cue := ⟨q, b.clamped, s.cueLate q b.clamped⟩
    if s.psc.cues.any (·.same c) || decide (s.psc.cues.length < Config.cueEntries) then
      ⟨{ s with psc := { s.psc with cues := cuePut c s.psc.cues } }, cueStatus c.late (decide (b.clamped ≠ b)), cueBytes c⟩
    else refuse s .full

/-- DROP_CUE's own rule (spec/10 R160). -/
def State.dropCue (s : State) (p : List Byte) : Answer :=
  let q := field p 0 5
  let kind := field p 5 1
  let target := field p 6 1
  if cueNamed kind target then
    if s.psc.cues.any fun c => c.named q kind target then
      ⟨{ s with psc := { s.psc with cues := s.psc.cues.filter fun c => !c.named q kind target } }, .ok, []⟩
    else refuse s .notFound
  else refuse s .badValue

/-- POST_CUE (spec/10 R157, spec/11 R168). -/
def execPostCue (payload : List Byte) (s : State) : Host.Outcome State Fault Refusal :=
  .next (s.takeRequest 0x28#8 11 payload s.cuesRefused (s.postCue payload))

/-- DROP_CUE (spec/10 R160, spec/11 R168). -/
def execDropCue (payload : List Byte) (s : State) : Host.Outcome State Fault Refusal :=
  .next (s.takeRequest 0x29#8 7 payload s.cuesRefused (s.dropCue payload))

end Sys2Proof.Machine
end

