-- ==== Sys2Proof/Machine/HostRequests.lean ====
section
/-! DEFINITION. The requests that carry output and status to the host: IDENT, FETCH_BLOCK, FETCH_NOTICE, TAKE_DEFECTS, READ_STATUS and
CLEAR_LINES (spec/05 R84, spec/08 R129, spec/09 R137, spec/11 R171, R172), and the requests refused before their own rule (R165). -/

namespace Sys2Proof.Machine

/-- IDENT's own rule (spec/11 R171). -/
def State.ident (s : State) : Answer :=
  ⟨s, .ok, identification⟩

/-- IDENT (spec/11 R171, R168). -/
def execIdent (payload : List Byte) (s : State) : Host.Outcome State Fault Refusal :=
  .next (s.takeRequest 0x01#8 0 payload none s.ident)

/-- FETCH_BLOCK's own rule: the head block's record; it is removed when the reply completes (spec/08 R129). -/
def State.fetchBlock (s : State) : Answer :=
  match s.oq.blocks with
  | b :: _ => ⟨s, .ok, b.record⟩
  | [] => refuse s .empty

/-- FETCH_BLOCK (spec/08 R129, spec/11 R168). -/
def execFetchBlock (payload : List Byte) (s : State) : Host.Outcome State Fault Refusal :=
  .next (s.takeRequest 0x40#8 0 payload none s.fetchBlock)

/-- FETCH_NOTICE's own rule: the head notice's record; it is removed when the reply completes (spec/11 R172). -/
def State.fetchNotice (s : State) : Answer :=
  match s.notices.queue with
  | n :: _ => ⟨s, .ok, n.record⟩
  | [] => refuse s .empty

/-- FETCH_NOTICE (spec/11 R172, R168). -/
def execFetchNotice (payload : List Byte) (s : State) : Host.Outcome State Fault Refusal :=
  .next (s.takeRequest 0x41#8 0 payload none s.fetchNotice)

/-- The most entries one TAKE_DEFECTS carries (spec/05 R84). -/
abbrev takeLimit : Nat := 16

/-- TAKE_DEFECTS's own rule: the first 16 SETTLED entries get their carried mark and their records are sent (spec/05 R84). -/
def State.takeDefects (s : State) : Answer :=
  let es := carryFirst takeLimit s.dfl.entries
  let carried := es.filter (·.carried)
  ⟨{ s with dfl := { s.dfl with entries := es } }, .ok, code1 carried.length ++ carried.flatMap (·.record)⟩

/-- TAKE_DEFECTS (spec/05 R84, spec/11 R168). -/
def execTakeDefects (payload : List Byte) (s : State) : Host.Outcome State Fault Refusal :=
  .next (s.takeRequest 0x42#8 0 payload none s.takeDefects)

/-- READ_STATUS's own rule: the snapshot; the lost-notice count is then 0 (spec/11 R171). -/
def State.readStatus (s : State) : Answer :=
  ⟨{ s with notices := { s.notices with lost := 0 } }, .ok, s.status⟩

/-- READ_STATUS (spec/11 R171, R168). -/
def execReadStatus (payload : List Byte) (s : State) : Host.Outcome State Fault Refusal :=
  .next (s.takeRequest 0x48#8 0 payload none s.readStatus)

/-- A sticky flag after a CLEAR_LINES that names its line in the masks as told (spec/09 R137). -/
def Sticky.masked (f : Sticky) (clear arm : Bool) : Sticky :=
  if arm then .armed else if clear then .disarmed else f

/-- CLEAR_LINES's own rule (spec/09 R137). -/
def State.clearLines (s : State) (p : List Byte) : Answer :=
  match lineMaskOf (field p 0 1), lineMaskOf (field p 1 1) with
  | some clear, some arm =>
    let lines := s.sns.lines.mapIdx fun i l => { l with sticky := l.sticky.masked (clear.get i) (arm.get i) }
    ⟨{ s with sns := { s.sns with lines := lines } }, .ok, lines.toList.flatMap fun l => code1 l.sticky.code⟩
  | _, _ => refuse s .badValue

/-- CLEAR_LINES (spec/09 R137, spec/11 R168). -/
def execClearLines (payload : List Byte) (s : State) : Host.Outcome State Fault Refusal :=
  .next (s.takeRequest 0x50#8 2 payload none (s.clearLines payload))

/-- A request with a valid CRC and an unknown kind: BAD_KIND, the kind echoed (spec/11 R165, check 2). -/
def execBadKindRequest (kind : Byte) (s : State) : Host.Outcome State Fault Refusal :=
  .next (s.rejectRequest kind .badKind)

/-- A request whose length exceeds 512, ended at its second length byte: BAD_LENGTH, the kind echoed as received (spec/11 R165). -/
def execLengthAbove512 (kind : Byte) (_length : BitVec 16) (s : State) : Host.Outcome State Fault Refusal :=
  .next (s.rejectRequest kind .badLength)

/-- A request with a wrong CRC: CHECK_FAILED, the kind echoed as received (spec/11 R165, check 1). -/
def execCheckFailedRequest (kind : Byte) (s : State) : Host.Outcome State Fault Refusal :=
  .next (s.rejectRequest kind .checkFailed)

end Sys2Proof.Machine
end

