-- ==== Sys2Proof/Machine/LinkEvents.lean ====
section
/-! DEFINITION. The events of the link and of the RESET input: select, the completion of replies, restart, line reset and its release
(spec/11 R163, R166, R174, R175). An event that the part cannot raise in the state it finds has no effect (log 8). -/

namespace Sys2Proof.Machine

/-- Select falls with no exchange under way: an exchange starts at HUNT (spec/11 R163). -/
def execSelectFall (s : State) : Host.Outcome State Fault Refusal :=
  .next (if !s.clock.lineReset && decide (s.link.phase = .idle) then { s with link := { LinkPort.idle with phase := .hunt } } else s)

/-- Select rises: the exchange ends in whatever phase it stands, and a reply not complete is cut short (spec/11 R163, R166). -/
def execSelectRise (s : State) : Host.Outcome State Fault Refusal :=
  .next (if s.clock.lineReset then s else { s.cutShort with link := .idle })

/-- A FETCH_BLOCK reply is complete: the head block leaves the output queue, and the slot it frees is granted (spec/08 R128, R129). -/
def execBlockRemoval (s : State) : Host.Outcome State Fault Refusal :=
  .next (if s.inFlight 0x40#8 then s.trail.freeSlot else s)

/-- A FETCH_NOTICE reply is complete: the head notice leaves the queue (spec/11 R172). -/
def execNoticeRemoval (s : State) : Host.Outcome State Fault Refusal :=
  .next (if s.inFlight 0x41#8 then { s.trail with notices := { s.notices with queue := s.notices.queue.tail } } else s)

/-- A TAKE_DEFECTS reply is complete: the carried entries leave the list (spec/05 R84, R85). -/
def execDefectRemoval (s : State) : Host.Outcome State Fault Refusal :=
  .next (if s.inFlight 0x42#8 then { s.trail with dfl := s.dfl.removeCarried } else s)

/-- The reply of a RESTART is complete: the restart takes effect (spec/11 R174). -/
def execRestartEffect (s : State) : Host.Outcome State Fault Refusal :=
  .next (if s.inFlight 0x7F#8 then s.trail.restartPart else s)

/-- The RESET input is asserted: the part is in line reset (spec/11 R175). -/
def execLineReset (s : State) : Host.Outcome State Fault Refusal :=
  .next (s.lineResetPart true (.all false))

/-- The RESET input is released; each line's debounced level is its first sample (spec/11 R175, spec/09 R134). -/
def execResetRelease (levels : PerLine Bool) (s : State) : Host.Outcome State Fault Refusal :=
  .next (if s.clock.lineReset then s.lineResetPart false levels else s)

end Sys2Proof.Machine
end

