-- ==== Sys2Proof/Machine/PassRequests.lean ====
section
/-! DEFINITION. The pass requests ARM, START, STOP, ABORT, DISCARD and RESTART (spec/10 R149 to R155, spec/05 R87, spec/11 R174). -/

namespace Sys2Proof.Machine

/-! ### ARM -/

/-- An enabled stream whose side is not enabled (spec/10 R149, second check). -/
def Descriptor.orphan (d : Descriptor) (g : Settings) : Bool :=
  d.enabled && match d.source with
    | .side x _ _ => !(g.sides.get x).enabled
    | .raw _ => false

/-- A side that is enabled with source DECK (spec/10 R149, third check). -/
def Settings.deckSide (g : Settings) (x : Side) : Bool :=
  (g.sides.get x).enabled && decide ((g.sides.get x).source = .deck)

/-- The first check of a set-up that fails: its number and the stream or side concerned, the lowest-numbered one (spec/10 R149,
spec/11 R168, log 12). -/
def Settings.badSetup (g : Settings) : Option (Nat × Nat) :=
  if streamList.all fun i => !(g.streams.get i).enabled then some (1, 0)
  else match streamList.find? fun i => (g.streams.get i).orphan g with
    | some i => some (2, i.val)
    | none =>
      if g.tachoLine.isSome then none
      else (Side.list.find? g.deckSide).map fun x => (3, sideCode x)

/-- ARM's own rule (spec/10 R149, R150). -/
def State.arm (s : State) : Answer :=
  match s.psc.stored.badSetup with
  | some (check, which) => ⟨s, .badSetup, code1 check ++ code1 which⟩
  | none => ⟨s.armPass, .ok, s.armPass.passReply⟩

/-- ARM (spec/10 R150, spec/11 R168). -/
def execArm (payload : List Byte) (s : State) : Host.Outcome State Fault Refusal :=
  .next (s.takeRequest 0x30#8 0 payload s.armRefused s.arm)

/-! ### START, STOP and ABORT -/

/-- START's own rule: ALREADY in RUNNING and while a start is pending (spec/10 R151, R155). -/
def State.start (s : State) : Answer :=
  if s.psc.state = .running ∨ s.psc.startPending then ⟨s, .already, s.passReply⟩
  else ⟨s.startRequest, .ok, s.startRequest.passReply⟩

/-- START (spec/10 R151, spec/11 R168). -/
def execStart (payload : List Byte) (s : State) : Host.Outcome State Fault Refusal :=
  .next (s.takeRequest 0x31#8 0 payload s.startRefused s.start)

/-- The effect of a host STOP by pass state (spec/10 R152). -/
def State.stopRequest (s : State) : State :=
  match s.psc.state with
  | .armed => s.returnToIdle
  | .running => s.endCapture .stopped
  | .draining => s
  | .idle => s
  | .ended => s

/-- STOP's own rule: ALREADY in DRAINING (spec/10 R152, R155). -/
def State.stop (s : State) : Answer :=
  ⟨s.stopRequest, if s.psc.state = .draining then .already else .ok, s.stopRequest.passReply⟩

/-- STOP (spec/10 R152, spec/11 R168). -/
def execStop (payload : List Byte) (s : State) : Host.Outcome State Fault Refusal :=
  .next (s.takeRequest 0x32#8 0 payload s.stopRefused s.stop)

/-- The effect of an ABORT by pass state (spec/10 R153). -/
def State.abortRequest (s : State) : State :=
  match s.psc.state with
  | .armed => s.returnToIdle
  | .running => s.abortRunning
  | .draining => s.abortDraining
  | .idle => s
  | .ended => s

/-- ABORT's own rule (spec/10 R153). -/
def State.abort (s : State) : Answer :=
  ⟨s.abortRequest, .ok, s.abortRequest.passReply⟩

/-- ABORT (spec/10 R153, spec/11 R168). -/
def execAbort (payload : List Byte) (s : State) : Host.Outcome State Fault Refusal :=
  .next (s.takeRequest 0x33#8 0 payload s.stopRefused s.abort)

/-! ### DISCARD and RESTART -/

/-- DISCARD's own rule: the defect list and the output queue are emptied together (spec/05 R87, spec/08 R130). -/
def State.discard (s : State) : Answer :=
  ⟨{ s with dfl := .empty, oq := .empty }, .ok, []⟩

/-- DISCARD (spec/05 R87, spec/11 R168). -/
def execDiscard (payload : List Byte) (s : State) : Host.Outcome State Fault Refusal :=
  .next (s.takeRequest 0x58#8 0 payload s.discardRefused s.discard)

/-- RESTART's own rule: the reply alone; the restart is deferred (spec/11 R174). -/
def State.restart (s : State) : Answer :=
  ⟨s, .ok, []⟩

/-- RESTART (spec/11 R174, R168). -/
def execRestart (payload : List Byte) (s : State) : Host.Outcome State Fault Refusal :=
  .next (s.takeRequest 0x7F#8 0 payload none s.restart)

end Sys2Proof.Machine
end

