-- ==== Sys2Proof/Machine/SettingsRequests.lean ====
section
/-! DEFINITION. The settings requests SET_SIDE, SET_PASS, SET_STREAM and SET_LINE (spec/11 R169). Each is taken whole or not at all:
refused with BAD_VALUE, or clamped, stored and echoed as stored. -/

namespace Sys2Proof.Machine

/-- SET_SIDE's own rule (spec/02 R18, spec/03 R48, spec/04 R56). -/
def State.setSide (s : State) (p : List Byte) : Answer :=
  match sideRequest p with
  | none => refuse s .badValue
  | some (x, g) =>
    ⟨s.store { s.psc.stored with sides := s.psc.stored.sides.set x g.clamped }, storedStatus (decide (g.clamped ≠ g)),
      sideBytes x g.clamped⟩

/-- SET_PASS's own rule (spec/03 R43, spec/09 R133, spec/11 R173). -/
def State.setPass (s : State) (p : List Byte) : Answer :=
  match passRequest p with
  | none => refuse s .badValue
  | some g =>
    ⟨s.store { s.psc.stored with pass := g.clamped }, storedStatus (decide (g.clamped ≠ g)), passBytes g.clamped⟩

/-- SET_STREAM's own rule: every field is enumerated (spec/08 R118). -/
def State.setStream (s : State) (p : List Byte) : Answer :=
  match streamRequest p with
  | none => refuse s .badValue
  | some (i, d) => ⟨s.store { s.psc.stored with streams := s.psc.stored.streams.set i d }, .ok, streamBytes i d⟩

/-- Another line than `i` holds TACHO (spec/09 R133). -/
def secondTacho (g : Settings) (i : Fin 6) (a : LineAction) : Bool :=
  decide (a = .tacho) &&
    match g.tachoLine with
    | some j => decide (j ≠ i)
    | none => false

/-- SET_LINE's own rule: a second TACHO line is refused, and a setting taken sets the line's debounce count to 0 (spec/09 R133). -/
def State.setLine (s : State) (p : List Byte) : Answer :=
  match lineRequest p with
  | none => refuse s .badValue
  | some (i, g) =>
    if secondTacho s.psc.stored i g.action then refuse s .badValue
    else
      let t := s.store { s.psc.stored with lines := s.psc.stored.lines.set i g }
      ⟨{ t with sns := { t.sns with lines := t.sns.lines.set i { t.sns.lines.get i with count := 0 } } }, .ok, lineBytes i g⟩

/-- SET_SIDE (spec/11 R168, R169). -/
def execSetSide (payload : List Byte) (s : State) : Host.Outcome State Fault Refusal :=
  .next (s.takeRequest 0x10#8 24 payload s.settingsRefused (s.setSide payload))

/-- SET_PASS (spec/11 R168, R169). -/
def execSetPass (payload : List Byte) (s : State) : Host.Outcome State Fault Refusal :=
  .next (s.takeRequest 0x11#8 12 payload s.settingsRefused (s.setPass payload))

/-- SET_STREAM (spec/11 R168, R169). -/
def execSetStream (payload : List Byte) (s : State) : Host.Outcome State Fault Refusal :=
  .next (s.takeRequest 0x12#8 7 payload s.settingsRefused (s.setStream payload))

/-- SET_LINE (spec/11 R168, R169). -/
def execSetLine (payload : List Byte) (s : State) : Host.Outcome State Fault Refusal :=
  .next (s.takeRequest 0x13#8 6 payload s.settingsRefused (s.setLine payload))

end Sys2Proof.Machine
end

