-- ==== Sys2Proof/Machine/SkewRequests.lean ====
section
/-! DEFINITION. The skew requests ADJUST_SKEW and READ_SKEW (spec/06 R90, R97). -/

namespace Sys2Proof.Machine

/-- The base skew of side `x` replaced (spec/06 R89). -/
def State.putSkew (s : State) (x : Side) (b : Int) : State :=
  { s with rsp := s.rsp.set x { s.rsp.get x with baseSkew := b } }

/-- The base skew one step further, saturating (spec/06 R90). -/
def steppedSkew (b step : Int) : Int :=
  clampInt (b + step) (-128) 127

/-- ADJUST_SKEW's own rule (spec/06 R90). -/
def State.adjustSkew (s : State) (p : List Byte) : Answer :=
  match sideOf (field p 0 1), skewStepOf (field p 1 1) with
  | some x, some step =>
    let b := (s.rsp.get x).baseSkew
    let b' := steppedSkew b step
    ⟨s.putSkew x b', storedStatus (decide (b' ≠ b + step)), code1 (sideCode x) ++ bytesOfInt 1 b'⟩
  | _, _ => refuse s .badValue

/-- The skew mode READ_SKEW reports: of the pass copy once a pass has been armed, else of the stored setting (spec/06 R97). -/
def State.skewModeNow (s : State) (x : Side) : SkewMode :=
  if s.psc.armed then (s.psc.pass.sides.get x).skewMode else (s.psc.stored.sides.get x).skewMode

/-- The trim of the side's newest speed-table entry, 0 when there is none (spec/06 R97). -/
def State.trimNow (s : State) (x : Side) : Int :=
  match (s.rtr.get x).newest (tableSlots (s.psc.pass.sides.get x).window) with
  | some e => e.trim
  | none => 0

/-- READ_SKEW's reply payload: side, base skew, skew mode, trim, count, means (spec/06 R97, spec/11 R168). -/
def State.skewReport (s : State) (x : Side) : List Byte :=
  code1 (sideCode x) ++ bytesOfInt 1 (s.rsp.get x).baseSkew ++ code1 (s.skewModeNow x).code ++ bytesOfInt 1 (s.trimNow x) ++
    code1 (s.rtr.get x).skewList.length ++ (s.rtr.get x).skewList.flatMap (bytesOfNat 2)

/-- READ_SKEW's own rule (spec/06 R97). -/
def State.readSkew (s : State) (p : List Byte) : Answer :=
  match sideOf (field p 0 1) with
  | some x => ⟨s, .ok, s.skewReport x⟩
  | none => refuse s .badValue

/-- ADJUST_SKEW (spec/06 R90, spec/11 R168). -/
def execAdjustSkew (payload : List Byte) (s : State) : Host.Outcome State Fault Refusal :=
  .next (s.takeRequest 0x20#8 2 payload none (s.adjustSkew payload))

/-- READ_SKEW (spec/06 R97, spec/11 R168). -/
def execReadSkew (payload : List Byte) (s : State) : Host.Outcome State Fault Refusal :=
  .next (s.takeRequest 0x21#8 1 payload none (s.readSkew payload))

end Sys2Proof.Machine
end

