-- ==== Sys2Proof/Machine/Dispatch.lean ====
section
/-! DEFINITION. The effect of every command of the table: one arm for each, one direct call of its meaning. -/

namespace Sys2Proof.Machine

/-- The effect of a command on everything but the queue. -/
def exec (i : Instr) (s : State) : Host.Outcome State Fault Refusal :=
  match i with
  | .ident payload => Sys2Proof.Machine.execIdent payload s
  | .setSide payload => Sys2Proof.Machine.execSetSide payload s
  | .setPass payload => Sys2Proof.Machine.execSetPass payload s
  | .setStream payload => Sys2Proof.Machine.execSetStream payload s
  | .setLine payload => Sys2Proof.Machine.execSetLine payload s
  | .adjustSkew payload => Sys2Proof.Machine.execAdjustSkew payload s
  | .readSkew payload => Sys2Proof.Machine.execReadSkew payload s
  | .postCue payload => Sys2Proof.Machine.execPostCue payload s
  | .dropCue payload => Sys2Proof.Machine.execDropCue payload s
  | .arm payload => Sys2Proof.Machine.execArm payload s
  | .start payload => Sys2Proof.Machine.execStart payload s
  | .stop payload => Sys2Proof.Machine.execStop payload s
  | .abort payload => Sys2Proof.Machine.execAbort payload s
  | .fetchBlock payload => Sys2Proof.Machine.execFetchBlock payload s
  | .fetchNotice payload => Sys2Proof.Machine.execFetchNotice payload s
  | .takeDefects payload => Sys2Proof.Machine.execTakeDefects payload s
  | .readStatus payload => Sys2Proof.Machine.execReadStatus payload s
  | .clearLines payload => Sys2Proof.Machine.execClearLines payload s
  | .discard payload => Sys2Proof.Machine.execDiscard payload s
  | .restart payload => Sys2Proof.Machine.execRestart payload s
  | .badKindRequest kind => Sys2Proof.Machine.execBadKindRequest kind s
  | .lengthAbove512 kind length => Sys2Proof.Machine.execLengthAbove512 kind length s
  | .selectFall => Sys2Proof.Machine.execSelectFall s
  | .selectRise => Sys2Proof.Machine.execSelectRise s
  | .blockRemoval => Sys2Proof.Machine.execBlockRemoval s
  | .noticeRemoval => Sys2Proof.Machine.execNoticeRemoval s
  | .defectRemoval => Sys2Proof.Machine.execDefectRemoval s
  | .restartEffect => Sys2Proof.Machine.execRestartEffect s
  | .lineReset => Sys2Proof.Machine.execLineReset s
  | .resetRelease levels => Sys2Proof.Machine.execResetRelease levels s
  | .settleEnd => Sys2Proof.Machine.execSettleEnd s
  | .groupEvent samples => Sys2Proof.Machine.execGroupEvent samples s
  | .limitEvent => Sys2Proof.Machine.execLimitEvent s
  | .completionOfDraining => Sys2Proof.Machine.execCompletionOfDraining s
  | .produceFrame side => Sys2Proof.Machine.execProduceFrame side s
  | .takeSampleGroup stream => Sys2Proof.Machine.execTakeSampleGroup stream s
  | .slotGrant => Sys2Proof.Machine.execSlotGrant s
  | .lineChangeAccepted line => Sys2Proof.Machine.execLineChangeAccepted line s
  | .stallExpiry => Sys2Proof.Machine.execStallExpiry s
  | .checkFailedRequest kind => Sys2Proof.Machine.execCheckFailedRequest kind s

end Sys2Proof.Machine
end

