-- ==== Sys2Proof/Machine/Wire.lean ====
section
/-! DEFINITION. The control link byte by byte (spec/11 R163): one byte in each direction while select is low. The table has no row for a
byte, so this is no command; it says which commands a run of bytes makes (log 9). -/

namespace Sys2Proof.Machine

/-- The state a command leaves; no command stops (log 17). -/
def State.after (s : State) (i : Instr) : State :=
  match exec i s with
  | .next t => t
  | .fault _ => s
  | .refused _ => s

/-- A byte of a request taken: the request is taken when the bytes clocked in complete one (spec/11 R163, R165). -/
def State.requestByte (s : State) (b : Byte) : State :=
  let bytes := s.link.received ++ [b]
  match decodeRequest bytes with
  | some i => s.after i
  | none => { s with link := { s.link with phase := .request, received := bytes } }

/-- The first byte of an exchange: A5h begins a request, and any other byte is ignored with all that follow (spec/11 R163). -/
def State.huntByte (s : State) (b : Byte) : State :=
  if b = 0xA5#8 then { s with link := { s.link with phase := .request, received := [b] } }
  else { s with link := { s.link with phase := .ignore } }

/-- The event of a reply's last byte, by the reply (spec/11 R163, R166). -/
def replyEnd (r : Reply) : Option Instr :=
  if r.status = .ok then
    match r.kind.toNat with
    | 0x40 => some .blockRemoval
    | 0x41 => some .noticeRemoval
    | 0x42 => some .defectRemoval
    | 0x7F => some .restartEffect
    | _ => none
  else none

/-- One byte of a reply clocked out (spec/11 R163). -/
def State.replyByte (s : State) (r : Reply) : State :=
  if s.link.sent + 1 < r.frame.length then { s with link := { s.link with sent := s.link.sent + 1 } }
  else match replyEnd r with
    | some i => s.after i
    | none => s.trail

/-- The byte on data out while a byte is clocked (spec/11 R163). In line reset it is 00h (R175); that it is 00h too while no exchange is
under way is the model's choice (log 33). -/
def State.dataOut (s : State) : Byte :=
  if s.clock.lineReset then 0x00#8
  else match s.link.phase with
    | .turnaround => 0xFF#8
    | .reply => match s.link.reply with
      | some r => r.frame.getD s.link.sent 0x00#8
      | none => 0x00#8
    | .idle => 0x00#8
    | .hunt => 0x00#8
    | .request => 0x00#8
    | .trail => 0x00#8
    | .ignore => 0x00#8

/-- One byte clocked in (spec/11 R163); while RESET is held the clock is not read (R175). That a byte clocked while no exchange is under
way is not read is the model's choice (log 33). -/
def State.clockByte (s : State) (b : Byte) : State :=
  if s.clock.lineReset then s
  else match s.link.phase with
    | .idle => s
    | .hunt => s.huntByte b
    | .request => s.requestByte b
    | .turnaround =>
      if s.link.sent = 0 then { s with link := { s.link with sent := 1 } }
      else { s with link := { s.link with phase := .reply, sent := 0 } }
    | .reply => match s.link.reply with
      | some r => s.replyByte r
      | none => s
    | .trail => s
    | .ignore => s

/-- A run of bytes clocked in. -/
def State.clockBytes (s : State) (bs : List Byte) : State :=
  bs.foldl .clockByte s

/-- The bytes on data out while a run of bytes is clocked in (spec/11 R163). -/
def State.bytesOut (s : State) : List Byte → List Byte
  | [] => []
  | b :: bs => s.dataOut :: (s.clockByte b).bytesOut bs

end Sys2Proof.Machine
end

