-- ==== Sys2Proof/Safety.lean ====
section
/-! DEFINITION. What holds of a safe state: the ranges and agreements that the spec's tables give, as invariants of the step; and
the tables of the spec that the statements are written in. -/

namespace Sys2Proof.Machine

/-! ### Capture rings -/

/-- Every ring is in its canonical form (spec/01 R11): equal rings are equal data. -/
def State.ringsOk (s : State) : Bool :=
  s.crg.rings.toList.all ringWf

/-! ### Capacities (spec/00, Fixed capacities and limits) -/

/-- The counts of spans not stored stay in 16 bits (spec/05 R83). -/
def KindCounts.ok (c : KindCounts) : Bool :=
  [c.lost, c.splice, c.refloss, c.dropout, c.clip, c.mark].all fun n => decide (n ≤ 65535)

/-- The queues and lists keep within their capacities, and the counts that saturate within their ranges (spec/05 R75, R83, spec/08
R128, spec/09 R140, R144, R146, spec/10 R157, spec/11 R172). -/
def State.capacityOk (s : State) : Bool :=
  decide (s.notices.queue.length ≤ Config.noticeEntries) && decide (s.notices.lost ≤ 255) &&
    decide (s.oq.blocks.length ≤ Config.queueBlocks) && decide s.oq.granted.Nodup && decide (s.psc.cues.length ≤ Config.cueEntries) &&
    decide (s.dfl.entries.length ≤ Config.defectEntries) && s.dfl.unlisted.ok &&
    decide (s.sns.splices.length ≤ Config.spliceEntries) && decide (s.sns.discarded ≤ 255) && decide (s.sns.tacho ≤ 65535) &&
    s.sns.tLast.all fun t => decide (1 ≤ t ∧ t ≤ 65535)

/-! ### Settings -/

/-- A side's settings lie in their lists and ranges (spec/02 R18, spec/03 R48, spec/04 R56). -/
def SideSettings.ok (g : SideSettings) : Bool :=
  (decide (g.pNom = 0) || decide (768 ≤ g.pNom ∧ g.pNom ≤ 65535)) && decide (32 ≤ g.tNom ∧ g.tNom ≤ 65535) &&
    decide (g.window ∈ [256, 512, 1024, 2048]) && decide (g.speedWindow ∈ [20, 40, 80, 125]) &&
    decide (g.smoothing ∈ [1, 3, 5, 7]) && decide (1 ≤ g.confirm ∧ g.confirm ≤ 16) &&
    decide (1 ≤ g.holdLimit ∧ g.holdLimit ≤ 255) && decide (1 ≤ g.acquire ∧ g.acquire ≤ 64) &&
    decide (256 ≤ g.dThr ∧ g.dThr ≤ 3584) && decide (g.dThr + 1 ≤ g.rThr ∧ g.rThr ≤ 4095) &&
    decide (g.debounce ∈ [1, 4, 16, 64]) && decide (4096 ≤ g.gMax ∧ g.gMax ≤ 16384)

/-- The pass settings lie in their lists and ranges (spec/03 R43, spec/09 R133, spec/11 R173). -/
def PassSettings.ok (g : PassSettings) : Bool :=
  decide (g.rate ∈ [48000, 96000, 192000]) && decide (g.factor ∈ [1, 2]) && decide (g.stallCount ≤ 255) &&
    decide (g.spliceLead ≤ 4095) && decide (1 ≤ g.spliceGuard ∧ g.spliceGuard ≤ 65535) &&
    decide (1 ≤ g.highWater ∧ g.highWater ≤ 64)

/-- A stream's channels suit its source, and its frames per block are in their list (spec/08 R118). -/
def Descriptor.ok (d : Descriptor) : Bool :=
  (match d.source with
    | .side _ l r => l || r
    | .raw ts => !trackEmpty ts) &&
    decide (d.framesPerBlock ∈ [128, 256, 512, 1024])

/-- At most one line holds TACHO (spec/09 R133). -/
def Settings.oneTacho (g : Settings) : Bool :=
  decide ((lineList.filter fun i => decide ((g.lines.get i).action = .tacho)).length ≤ 1)

/-- Every setting lies in its list or range (spec/11 R169). -/
def Settings.ok (g : Settings) : Bool :=
  g.sides.toList.all (·.ok) && g.pass.ok && g.streams.toList.all (·.ok) &&
    (g.lines.toList.all fun l => decide (l.debounce ∈ [0, 32, 512, 8192])) && g.oneTacho

/-- The stored settings and the pass copies lie in their lists and ranges (spec/11 R169, spec/10 R150). -/
def State.settingsOk (s : State) : Bool :=
  s.psc.stored.ok && s.psc.pass.ok

/-! ### Base skews and cues -/

/-- A cue's value lies in its range (spec/10 R157). -/
def CueBody.ok : CueBody → Bool
  | .source _ _ none => true
  | .source _ _ (some p) => decide (p = 0) || decide (768 ≤ p ∧ p ≤ 65535)
  | .lift _ _ => true
  | .gMax _ v => decide (4096 ≤ v ∧ v ≤ 16384)
  | .skew _ v => decide (-128 ≤ v ∧ v ≤ 127)
  | .mark ts => !trackEmpty ts

/-- The base skews and the values of the waiting cues lie in their ranges (spec/06 R89, spec/10 R157). -/
def State.skewOk (s : State) : Bool :=
  (s.rsp.toList.all fun r => decide (-128 ≤ r.baseSkew ∧ r.baseSkew ≤ 127)) && s.psc.cues.all fun c => c.body.ok

/-- The cue list is in the order of R157, and no two entries share position, target and kind. -/
def cuesOrdered (cs : List Cue) : Prop :=
  cs.Pairwise fun a b => a.before b = true

/-! ### Pass state -/

/-- What the blocks hold in each pass state (spec/01 R1, R5, R7, spec/10 R148, R162). -/
def State.passOk (s : State) : Bool :=
  match s.psc.state with
  | .idle =>
    decide (s.psc.cause = none) && !s.psc.startPending && decide (s.psc.cues = []) && decide (s.cfe.converter = .stopped) &&
      decide (s.crg.w = 0) && decide (s.crg.e = none)
  | .armed =>
    decide (s.psc.cause = none) && decide (s.cfe.converter = .settling ∨ s.cfe.converter = .settled) &&
      (!s.psc.startPending || decide (s.cfe.converter = .settling)) && decide (s.crg.w = 0) && decide (s.crg.e = none)
  | .running =>
    decide (s.psc.cause = none) && !s.psc.startPending && decide (s.cfe.converter = .capturing) &&
      decide (s.crg.w ≤ Config.captureLimit) && decide (s.crg.e = none)
  | .draining =>
    s.psc.cause.isSome && !s.psc.startPending && decide (s.cfe.converter = .stopped) &&
      decide (s.crg.w ≤ Config.captureLimit) && decide (s.crg.e = some s.crg.w)
  | .ended =>
    s.psc.cause.isSome && !s.psc.startPending && decide (s.psc.cues = []) && decide (s.cfe.converter = .stopped) &&
      decide (s.crg.w ≤ Config.captureLimit) && decide (s.crg.e = some s.crg.w)

/-- The settle count is 0 in every converter state except SETTLING, and a group is gathered only while capturing (spec/01 R2, R3,
R7). -/
def State.converterOk (s : State) : Bool :=
  (if s.cfe.converter = .settling then decide (1 ≤ s.cfe.settleCount ∧ s.cfe.settleCount ≤ Config.settleLength)
    else decide (s.cfe.settleCount = 0)) &&
    (if s.cfe.converter = .capturing then decide (s.cfe.gathered.length < 4) else decide (s.cfe.gathered = []))

/-! ### Defect list order -/

/-- The entries are in the order of R75, and no two of one kind and key overlap or abut. -/
def DefectList.inOrder (d : DefectList) : Prop :=
  d.entries.Pairwise fun a b => a.before b = true ∧ a.meets b = false

/-! ### Tick records -/

/-- A record of a detector that has completed `ticks` ticks: it stands in its slot, and it is decided, or it is counted toward the
run in progress (spec/04 R58, R60). -/
def Monitor.recordOk (m : Monitor) (slot : Nat) (r : TickRecord) : Bool :=
  decide (slot = r.tick % Config.tickSlots) && decide (r.tick < m.ticks) &&
    match r.membership with
    | .pending => decide (m.state = .opening ∨ m.state = .closing) && decide (m.runFirst ≤ r.tick)
    | .outside => r.tickClass.isSome && r.gain.isSome
    | .inside => r.tickClass.isSome && r.gain.isSome

/-- The detector's run, span and settled index agree with its state, for a debounce of `g` (spec/04 R59, R60, R67). -/
def Monitor.runOk (g : SideSettings) (m : Monitor) : Bool :=
  decide (m.settled = Config.tickLength * (m.ticks - g.debounce)) && (decide (m.state = .quiet) || decide (64 < m.ticks)) &&
    match m.state with
    | .quiet => decide (m.runCount = 0) && m.span.isNone
    | .opening =>
      decide (1 ≤ m.runCount ∧ m.runCount < g.debounce ∧ m.runFirst + m.runCount = m.ticks) && m.span.isNone
    | .open => decide (m.runCount = 0) && m.span.isSome
    | .closing =>
      decide (1 ≤ m.runCount ∧ m.runCount < g.debounce ∧ m.runFirst + m.runCount = m.ticks) && m.span.isSome

/-- A detector during capture, with its side's settings (spec/04 R58, R60, R67). -/
def Monitor.tickOk (g : SideSettings) (m : Monitor) : Bool :=
  slotsRise m.records && (m.records.all fun c => m.recordOk c.1 c.2) && m.runOk g

/-- A state that keeps every agreement above. -/
def State.safe (s : State) : Prop :=
  s.ringsOk = true ∧ s.capacityOk = true ∧ s.settingsOk = true ∧ s.skewOk = true ∧ cuesOrdered s.psc.cues ∧ s.dfl.inOrder ∧
    s.passOk = true ∧ s.converterOk = true

/-! ### Tables of the spec -/

/-- The state with a request of a kind answered (spec/11 R163, R164). -/
def State.replied (s : State) (kind : Byte) (status : Status) (payload : List Byte) : State :=
  { s with link := answered kind status payload }

/-- The entries of R155's table that say STATE, by kind code, pass state and whether the output queue is empty. -/
def refusedInState (kind : Nat) (st : PassState) (queueEmpty : Bool) : Bool :=
  if kind ∈ [0x10, 0x11, 0x12, 0x13] then decide (st ∈ [.armed, .running, .draining])
  else if kind = 0x30 then decide (st ∈ [.armed, .running, .draining]) || (decide (st = .ended) && !queueEmpty)
  else if kind = 0x31 then decide (st ∈ [.idle, .draining, .ended])
  else if kind ∈ [0x28, 0x29, 0x32, 0x33] then decide (st ∈ [.idle, .ended])
  else if kind = 0x58 then decide (st ∈ [.idle, .armed, .running, .draining])
  else false

/-- The byte at an offset of a payload, as a number. -/
def byteAt (p : List Byte) (i : Nat) : Nat :=
  (p.getD i 0).toNat

/-- The two bytes from an offset of a payload, as a number (spec/11 R176). -/
def pairAt (p : List Byte) (i : Nat) : Nat :=
  256 * byteAt p i + byteAt p (i + 1)

/-- A SET_SIDE payload with a side or an enumerated value outside its list (spec/02 R18, spec/03 R48, spec/04 R56, spec/11 R176). -/
def badSideBytes (p : List Byte) : Bool :=
  decide (1 < byteAt p 0 ∨ 1 < byteAt p 1 ∨ 4 < byteAt p 2 ∨ pairAt p 7 ∉ [256, 512, 1024, 2048] ∨
    byteAt p 9 ∉ [20, 40, 80, 125] ∨ byteAt p 10 ∉ [1, 3, 5, 7] ∨ 1 < byteAt p 14 ∨ 1 < byteAt p 15 ∨
    byteAt p 20 ∉ [1, 4, 16, 64] ∨ 1 < byteAt p 21)

/-- A SET_PASS payload with an enumerated value outside its list (spec/03 R43, spec/09 R133, spec/11 R169, R176). -/
def badPassBytes (p : List Byte) : Bool :=
  decide (256 * pairAt p 0 + byteAt p 2 ∉ [48000, 96000, 192000] ∨ byteAt p 3 ∉ [1, 2] ∨ 1 < byteAt p 5 ∨ 1 < byteAt p 11)

/-- A SET_STREAM payload with a stream or value outside its list, or with channels that do not suit the source (spec/08 R118). -/
def badStreamBytes (p : List Byte) : Bool :=
  decide (7 < byteAt p 0 ∨ 1 < byteAt p 1 ∨ 2 < byteAt p 2 ∨ byteAt p 3 = 0 ∨ (byteAt p 2 < 2 ∧ 3 < byteAt p 3) ∨
    15 < byteAt p 3 ∨ 2 < byteAt p 4 ∨ pairAt p 5 ∉ [128, 256, 512, 1024])

/-- A SET_LINE payload with a line or value outside its list (spec/09 R133). -/
def badLineBytes (p : List Byte) : Bool :=
  decide (5 < byteAt p 0 ∨ 5 < byteAt p 1 ∨ 2 < byteAt p 2 ∨ pairAt p 3 ∉ [0, 32, 512, 8192] ∨ 1 < byteAt p 5)

/-- A cue kind and target that name no cue: the kind is unknown, the target does not suit it, or a mask names no track (spec/10 R157,
R160). -/
def badCueName (kind target : Nat) : Bool :=
  decide (kind = 0 ∨ 5 < kind ∨ (kind < 5 ∧ 1 < target) ∨ (kind = 5 ∧ (target = 0 ∨ 15 < target)))

/-- A POST_CUE payload that is refused with BAD_VALUE (spec/10 R157). -/
def badCueBytes (p : List Byte) : Bool :=
  badCueName (byteAt p 5) (byteAt p 6) ||
    decide ((byteAt p 5 = 1 ∧ (4 < byteAt p 7 ∨ 1 < byteAt p 8)) ∨ (byteAt p 5 = 2 ∧ 1 < byteAt p 7))

/-- The values a cue's fields can carry on the link (spec/11 R176). -/
def CueBody.sendable : CueBody → Bool
  | .source _ _ none => true
  | .source _ _ (some p) => decide (p < 65536)
  | .lift _ _ => true
  | .gMax _ v => decide (v < 65536)
  | .skew _ v => decide (-128 ≤ v ∧ v ≤ 127)
  | .mark ts => !trackEmpty ts

/-- Enumerated fields in their lists, and numeric fields that fit their bytes (spec/11 R169, R176). -/
def SideSettings.sendable (g : SideSettings) : Bool :=
  decide (g.pNom < 65536 ∧ g.tNom < 65536 ∧ g.window ∈ [256, 512, 1024, 2048] ∧ g.speedWindow ∈ [20, 40, 80, 125] ∧
    g.smoothing ∈ [1, 3, 5, 7] ∧ g.confirm < 256 ∧ g.holdLimit < 256 ∧ g.acquire < 256 ∧ g.dThr < 65536 ∧ g.rThr < 65536 ∧
    g.debounce ∈ [1, 4, 16, 64] ∧ g.gMax < 65536)

/-- Enumerated fields in their lists, and numeric fields that fit their bytes (spec/11 R169, R176). -/
def PassSettings.sendable (g : PassSettings) : Bool :=
  decide (g.rate ∈ [48000, 96000, 192000] ∧ g.factor ∈ [1, 2] ∧ g.stallCount < 256 ∧ g.spliceLead < 65536 ∧
    g.spliceGuard < 65536 ∧ g.highWater < 256)

/-- How many of a cue's four value bytes its kind uses (spec/11 R176). -/
def CueBody.valueLength : CueBody → Nat
  | .source _ _ none => 2
  | .source _ _ (some _) => 4
  | .lift _ _ => 1
  | .gMax _ _ => 2
  | .skew _ _ => 1
  | .mark _ => 0

/-! ### The layouts of section 11.8 (spec/11 R176), written from its tables: a code is a place in a list -/

/-- A yes or no, a flag, as a number. -/
def bitOf (b : Bool) : Nat :=
  if b then 1 else 0

/-- A number as one byte. -/
def byteOf (n : Nat) : Byte :=
  BitVec.ofNat 8 n

/-- A track mask: bit 0 for track 1 up to bit 3 for track 4. -/
def maskByte (ts : TrackSet) : Byte :=
  byteOf (bitOf ts.t1 + 2 * bitOf ts.t2 + 4 * bitOf ts.t3 + 8 * bitOf ts.t4)

/-- The side codes: A 0, B 1. -/
def sideByte (x : Side) : Byte :=
  byteOf ([Side.A, .B].idxOf x)

/-- The defect kind codes, 1 to 6. -/
def kindByte (k : DefectKind) : Byte :=
  byteOf (1 + [DefectKind.lost, .splice, .refloss, .dropout, .clip, .mark].idxOf k)

/-- The block record: the 32-byte header and the sample data. -/
def blockTable (b : Block) : List Byte :=
  let flags := [b.flags.unlocked, b.flags.held, b.flags.lifted, b.flags.limited, b.flags.lost, b.finalFlag, b.partialFlag, b.reversed]
  let source : List Byte := match b.source with
    | .side .A l r => [0, byteOf (bitOf l + 2 * bitOf r)]
    | .side .B l r => [1, byteOf (bitOf l + 2 * bitOf r)]
    | .raw ts => [2, maskByte ts]
  [byteOf b.stream, byteOf ((flags.zipIdx.map fun p => bitOf p.1 * 2 ^ p.2).sum)] ++ bytesOfNat 2 b.frames ++
    bytesOfNat 5 b.emit ++ bytesOfInt 5 b.order ++ bytesOfNat 5 b.first ++ bytesOfNat 5 b.last ++ source ++
    [byteOf ([SampleFormat.s16, .s24, .s32].idxOf b.format)] ++ bytesOfNat 2 b.crc.toNat ++ [0, 0, 0] ++ b.data

/-- The defect record of a SETTLED entry: 20 bytes. -/
def defectTable (e : DefectEntry) : List Byte :=
  [kindByte e.kind, maskByte e.tracks, 2, byteOf (bitOf e.untimed + 2 * bitOf e.stream.isSome + 4 * bitOf e.depth.isSome)] ++
    bytesOfNat 5 e.start ++ bytesOfNat 5 e.length ++ bytesOfNat 2 (e.depth.getD 0) ++
    [byteOf ([none, some Disposition.lifted, some .limited, some .unlifted].idxOf e.disposition),
      match e.stream with
        | some i => byteOf i
        | none => 0xFF,
      0, 0]

/-- A notice's kind, first detail and second detail: 7 bytes. -/
def noticeTable : NoticeBody → List Byte
  | .pass st cause n =>
    [1, 0, byteOf ([PassState.idle, .armed, .running, .draining, .ended].idxOf st),
      byteOf ([none, some EndCause.stopped, some .endLine, some .stall, some .limit, some .aborted].idxOf cause), byteOf n, 0, 0]
  | .lock x st =>
    [2, 0, sideByte x, 0, 0, 0, byteOf ([LockState.off, .search, .confirm, .locked, .hold, .lapsed].idxOf st)]
  | .line i high => [3, 0, byteOf i, 0, 0, 0, byteOf (bitOf high)]
  | .stall begins i => [4, 0, byteOf (bitOf (!begins)), 0, 0, 0, byteOf i]
  | .lossSide x => [5, 0, sideByte x, 0, 0, 0x10, 0]
  | .lossStream i => [5, 0, byteOf (0x10 + i), 0, 0, 0x10, 0]
  | .defectsFull k => [6, 0, kindByte k, 0, 0, 2, 0]
  | .cue (.source x _ _) late => [7, 1, sideByte x, 0, 0, 0, byteOf (bitOf late)]
  | .cue (.lift x _) late => [7, 2, sideByte x, 0, 0, 0, byteOf (bitOf late)]
  | .cue (.gMax x _) late => [7, 3, sideByte x, 0, 0, 0, byteOf (bitOf late)]
  | .cue (.skew x _) late => [7, 4, sideByte x, 0, 0, 0, byteOf (bitOf late)]
  | .cue (.mark ts) late => [7, 5, maskByte ts, 0, 0, 0, byteOf (bitOf late)]

/-! ### The entry into RUNNING -/

/-- A cue of one of the kinds, for side `x`, at position 0. -/
def Cue.atZero (kinds : List Nat) (x : Side) (c : Cue) : Bool :=
  decide (c.position = 0 ∧ c.body.kind ∈ kinds ∧ c.body.target = sideCode x)

/-- The cues of boundary 0 on the enabled sides, SOURCE (kind 1) before LIFT and GMAX (kinds 2 and 3), in list order (spec/10 R151; the
order is log 18). -/
def State.zeroCues (s : State) : List Cue :=
  let on := [Side.A, .B].filter s.sideOn
  (on.flatMap fun x => s.psc.cues.filter (Cue.atZero [1] x)) ++ on.flatMap fun x => s.psc.cues.filter (Cue.atZero [2, 3] x)

/-- What the entry into RUNNING makes of a state, the link port apart: the PASS notice and the CUE notices of boundary 0, the converters,
the sense unit, lock, wait cause, streams and monitors (spec/01 R17, spec/02 R27, R33, R41, spec/04 R73, spec/07 R103, R117, spec/08
R131, spec/09 R147, spec/10 R151, R156, R159). -/
def State.begunAs (s t : State) : Prop :=
  t.psc = { s.psc with state := .running, startPending := false, cues := s.psc.cues.filter (· ∉ s.zeroCues) } ∧
  t.notices = s.zeroCues.foldl (fun q c => q.push ⟨.cue c.body c.late, 0⟩) (s.notices.push ⟨.pass .running none 0, 0⟩) ∧
  t.cfe = { s.cfe with converter := .capturing, settleCount := 0, wideCount := 0, gathered := [] } ∧ t.crg = s.crg ∧
  t.dfl = s.dfl ∧ t.oq = s.oq ∧ t.pending = s.pending ∧ t.clock = s.clock ∧
  t.sns = { s.sns with reference := false, tacho := 0, stalled := false, timer := s.psc.pass.stallTimer } ∧
  (∀ x, t.rsp.get x = { s.rsp.get x with
      state := if s.sideOn x then .active else .off, wait := if s.sideOn x then .entry else .none } ∧
    (t.rtr.get x).table = [] ∧ (t.rtr.get x).displaced = none ∧ (t.rtr.get x).windows = 0 ∧ (t.rtr.get x).sums = .zero ∧
    (t.rtr.get x).lastAccepted = s.psc.nominal ∧ (t.rtr.get x).boundary = (if s.sideOn x then some 0 else none) ∧
    (t.rtr.get x).lock = (if s.sideOn x = true ∧ (t.rtr.get x).source ≠ .none then .search else .off) ∧
    ((∀ c ∈ s.psc.cues, c.atZero [1] x = false) →
      (t.rtr.get x).source = (s.rtr.get x).source ∧ (t.rtr.get x).pEff = (s.rtr.get x).pEff)) ∧
  (∀ i, t.sas.get i = { s.sas.get i with
    state := if (s.psc.pass.streams.get i).enabled then .filling else .off, buffer := [], emit := 0, first := 0, last := 0
    flags := .empty, r := 0, loss := false }) ∧
  ∀ k, (t.lvm.get k).level = 0 ∧ (t.lvm.get k).ticks = 0 ∧ (t.lvm.get k).peak = 0 ∧ (t.lvm.get k).state = .quiet ∧
    (t.lvm.get k).records = [] ∧ (t.lvm.get k).finalTick = none ∧ (t.lvm.get k).settled = 0 ∧
    ((∀ c ∈ s.psc.cues, c.atZero [2, 3] k.side = false) →
      (t.lvm.get k).lift = (s.lvm.get k).lift ∧ (t.lvm.get k).gMax = (s.lvm.get k).gMax)

/-! ### Blocks and streams -/

/-- The block that stream `i` seals from its buffer: its header fields, its slots in the order of its source, and its CRC (spec/07 R111,
R112, spec/08 R125 to R127). `e` is the end of capture, which an empty block carries as both indices. -/
def Block.carries (b : Block) (i : Fin 8) (d : Descriptor) (st : Stream) (final : Bool) (e : Nat) : Prop :=
  let sideB := match d.source with
    | .side .B _ _ => true
    | .side .A _ _ => false
    | .raw _ => false
  b.stream = i ∧ b.source = d.source ∧ b.format = d.format ∧ b.flags = st.flags ∧ b.finalFlag = final ∧
  b.partialFlag = (final && decide (st.buffer.length < d.framesPerBlock)) ∧ b.reversed = sideB ∧
  b.frames = st.buffer.length ∧ b.emit = st.emit ∧ b.order = (if sideB then -(st.emit : Int) else st.emit) ∧
  b.first = (if st.buffer = [] then e else st.first) ∧ b.last = (if st.buffer = [] then e else st.last) ∧
  b.data = (if sideB then st.buffer.reverse.flatten else st.buffer.flatten) ∧
  b.crc = crc16 (b.headFields ++ [0, 0, 0] ++ b.data)

/-- Blocks sealed one after another: each with its stream, the stream as it was sealed, and whether it is the stream's last. -/
def carriedAs (streams : PerStream Descriptor) (e : Nat) : List Block → List (Fin 8 × Stream × Bool) → Prop
  | [], [] => True
  | b :: bs, (i, st, final) :: rest => b.carries i (streams.get i) st final e ∧ carriedAs streams e bs rest
  | [], _ :: _ => False
  | _ :: _, [] => False

/-- A stream after its block has been sealed (spec/08 R125, R128). -/
def Stream.emptied (st : Stream) (next : StreamState) : Stream :=
  { st with state := next, buffer := [], emit := st.emit + 1, first := 0, last := 0, flags := ⟨false, false, false, false, false⟩ }

/-! ### Lock and clips -/

/-- SPLICE, NO_REF and OUT are the rejecting verdicts (spec/02 R28). -/
def Verdict.rejecting : Verdict → Bool
  | .splice => true
  | .noRef => true
  | .out => true
  | .inside => false
  | .short => false

/-- The table of R28: lock state, confirm count and hold count after a verdict, from those before it, Cn and Hl. -/
def lockAfter (lock : LockState) (c h goal limit : Nat) (v : Verdict) : LockState × Nat × Nat :=
  if v = .short then (lock, c, h)
  else match lock with
    | .off => (.off, c, h)
    | .search =>
      if v.rejecting then (.search, c, h) else if goal = 1 then (.locked, 0, h) else (.confirm, 1, h)
    | .confirm =>
      if v.rejecting then (.search, 0, h) else if c + 1 = goal then (.locked, 0, h) else (.confirm, c + 1, h)
    | .locked => if v.rejecting then (.hold, c, 1) else (.locked, c, h)
    | .hold =>
      if v.rejecting then if limit < h + 1 then (.lapsed, c, 0) else (.hold, c, h + 1) else (.locked, c, 0)
    | .lapsed =>
      if v.rejecting then (.lapsed, c, h) else if goal = 1 then (.locked, 0, h) else (.confirm, 1, h)

/-- Windows closed one after another. -/
def Tracker.closes (t : Tracker) (cs : List Closing) : Tracker :=
  cs.foldl .close t

/-- Every one of the closes gives a rejecting verdict, under one hold limit (spec/02 R28). -/
def Tracker.allRejected (t : Tracker) (limit : Nat) : List Closing → Prop
  | [] => True
  | c :: cs => (t.verdict c).any (·.rejecting) = true ∧ c.settings.holdLimit = limit ∧ (t.close c).allRejected limit cs

/-- Wide samples passed one after another through a track's clip detector, the first of index `u`: the detector and its reports
(spec/01 R9, R10). -/
def clipRun (t : Track) : Nat → List Int → ClipDetector → ClipDetector × List Report
  | _, [], d => (d, [])
  | u, x :: xs, d =>
    let a := clipSample t u x d
    let b := clipRun t (u + 1) xs a.1
    (b.1, a.2 ++ b.2)

/-- Samples of one line taken one after another (spec/09 R134). -/
def State.sampleLines (s : State) (i : Fin 6) (levels : List Bool) : State :=
  levels.foldl (fun t b => t.sampleLine i b) s

end Sys2Proof.Machine
end

