-- ==== Sys2Proof/WellFormed.lean ====
section
/-! DEFINITION. Well-formed commands: those that can arrive. A request frame carries at most 512 payload bytes (spec/11 R176), a
BAD_KIND request a kind absent from the table, and a request ended at its length bytes a length above 512 (spec/11 R165). -/

namespace Sys2Proof

/-- A kind code of the table of R168. -/
def tableKind (kind : Byte) : Bool :=
  decide (requestOf kind [] ≠ .badKindRequest kind)

/-- The command can arrive. -/
def Instr.wellFormed (i : Instr) : Bool :=
  match i with
  | .badKindRequest kind => !tableKind kind
  | .lengthAbove512 _ length => decide (512 < length.toNat)
  | .checkFailedRequest _ => true
  | i =>
    match i.request with
    | some r => decide (r.2.length ≤ 512)
    | none => true

end Sys2Proof
end

