-- ==== Sys2Proof/Certificates/Slice0/Obligations.lean ====
section
/-! DEFINITION. The statements for the provers, from the numbered rules of the spec. -/

open Sys2Proof Sys2Proof.Machine

/-! ### The queue of commands -/

/-- A step takes the command at the front of the queue and runs it on the state with the rest; no command stops (log 17) and none touches
the queue. On an empty queue the part runs by itself (the model's choice: log 2): nothing while RESET is held, the event that is due, or
one wide tick at the converters, the tacho and stall timers and the lines. -/
def Obligations.StepTakesTheFrontCommand : Prop :=
  ∀ s : State,
    (∀ c rest, s.pending = c :: rest → step s = exec c { s with pending := rest } ∧
      ∃ t, exec c { s with pending := rest } = .next t ∧ t.pending = rest) ∧
    (s.pending = [] →
      (s.clock.lineReset = true → step s = .next s) ∧
      (s.clock.lineReset = false → ∀ e, s.due = some e → step s = .next (s.takeDue e)) ∧
      (s.clock.lineReset = false → s.due = none →
        step s = .next { s.tickBlocks.tickLines with clock := ⟨s.clock.ticks + 1, false⟩ }))

/-! ### Checks of a request -/

/-- A request of any kind whose payload is not as long as R168's table says is answered BAD_LENGTH and changes nothing (R165, third
check). -/
def Obligations.WrongLengthIsRefused : Prop :=
  ∀ (s : State) (i : Instr) (k n : Nat) (p : List Byte), s.listening = true → i.request = some (k, p) → (k, n) ∈ requestKinds →
    p.length ≠ n → exec i s = .next (s.replied (BitVec.ofNat 8 k) .badLength [])

/-- A request of the right length is answered STATE, and changes nothing, exactly where R155's table says so. -/
def Obligations.StateRefusalsFollowTheTable : Prop :=
  ∀ (s : State) (i : Instr) (k n : Nat) (p : List Byte), s.listening = true → i.request = some (k, p) → (k, n) ∈ requestKinds →
    p.length = n →
    (refusedInState k s.psc.state s.oq.blocks.isEmpty = true → exec i s = .next (s.replied (BitVec.ofNat 8 k) .state [])) ∧
    (refusedInState k s.psc.state s.oq.blocks.isEmpty = false →
      ∃ t st q, exec i s = .next t ∧ t.link = answered (BitVec.ofNat 8 k) st q ∧ st ≠ .state ∧ st ≠ .badLength)

/-- CHECK_FAILED, BAD_KIND and a length above 512 echo the kind and change nothing (R165). A link port that does not listen, in line
reset or past its request, takes no request (R163, R175). -/
def Obligations.EnvelopeErrorsAndDeafLink : Prop :=
  ∀ s : State,
    (s.listening = true → ∀ (kind : Byte) (length : BitVec 16),
      exec (.checkFailedRequest kind) s = .next (s.replied kind .checkFailed []) ∧
      exec (.badKindRequest kind) s = .next (s.replied kind .badKind []) ∧
      exec (.lengthAbove512 kind length) s = .next (s.replied kind .badLength [])) ∧
    (s.clock.lineReset = true ∨ s.link.phase ∈ [.turnaround, .reply, .trail, .ignore] →
      (∀ i : Instr, i.request.isSome = true → exec i s = .next s) ∧
      ∀ (kind : Byte) (length : BitVec 16), exec (.checkFailedRequest kind) s = .next s ∧
        exec (.badKindRequest kind) s = .next s ∧ exec (.lengthAbove512 kind length) s = .next s)

/-! ### Identification, status, fetching -/

/-- IDENT answers the fixed identification; READ_STATUS answers the snapshot, of 521 bytes in every state as IDENT reports, and the
lost-notice count is then 0 (R171; the length follows the layout of log 11). -/
def Obligations.IdentAndStatusReplies : Prop :=
  ∀ s : State, s.listening = true →
    exec (.ident []) s = .next (s.replied 0x01 .ok
      [0x41, 0x54, 0x34, 0x34, 0x30, 0, 0, 0, 0x01, 0x01, 0x00, 0x00, 0x02, 0x00, 0x00, 0x40, 0x00, 0x10, 0x00, 0x20, 0x02, 0x00,
        0x40, 0x20, 0x02, 0x09]) ∧
    exec (.readStatus []) s = .next ({ s with notices := { s.notices with lost := 0 } }.replied 0x48 .ok s.status) ∧
    s.status.length = 521

/-- FETCH_BLOCK and FETCH_NOTICE carry the head of their queue, or answer EMPTY; nothing leaves a queue yet (R129, R172). A block record
is the 32-byte header of section 11.8, field by field in its codes, and the data; a notice record is its kind, two details and origin, 12
bytes; numbers are sent most significant byte first, signed ones in two's complement (R176). -/
def Obligations.FetchRepliesCarryTheHead : Prop :=
  ∀ s : State, s.listening = true →
    (s.oq.blocks = [] → exec (.fetchBlock []) s = .next (s.replied 0x40 .empty [])) ∧
    (∀ b rest, s.oq.blocks = b :: rest → exec (.fetchBlock []) s = .next (s.replied 0x40 .ok (blockTable b)) ∧
      (blockTable b).length = 32 + b.data.length) ∧
    (s.notices.queue = [] → exec (.fetchNotice []) s = .next (s.replied 0x41 .empty [])) ∧
    (∀ n rest, s.notices.queue = n :: rest →
      exec (.fetchNotice []) s = .next (s.replied 0x41 .ok (noticeTable n.body ++ bytesOfNat 5 n.origin)) ∧
      (noticeTable n.body).length = 7) ∧
    ∀ width : Nat, (∀ v : Nat, (bytesOfNat width v).length = width ∧ natOfBytes (bytesOfNat width v) = v % 256 ^ width) ∧
      ∀ v : Int, (bytesOfInt width v).length = width ∧ (natOfBytes (bytesOfInt width v) : Int) = v % 256 ^ width

/-- The end of a FETCH_BLOCK, FETCH_NOTICE or TAKE_DEFECTS reply removes what it carried (R129, R172, R84, R166). The slot that a block
leaves is granted in that moment to the lowest-numbered waiting stream that holds no grant yet (R128, R129, log 14). That a removal
command with no such reply in flight changes nothing is the model's choice of log 8, that it may come in TURNAROUND that of log 9. -/
def Obligations.CompletedRepliesRemoveTheirItems : Prop :=
  ∀ (s : State) (r : Reply), s.clock.lineReset = false → s.link.phase ∈ [.turnaround, .reply] → s.link.reply = some r →
    r.status = .ok →
    let next := streamList.find? fun i =>
      decide ((s.sas.get i).state = .waiting ∨ (s.sas.get i).state = .finalWait) && decide (i ∉ s.oq.granted)
    exec .blockRemoval s = .next (if r.kind = 0x40 then
      { s with link := { s.link with phase := .trail }, oq := ⟨s.oq.blocks.tail, s.oq.granted ++ next.toList⟩ } else s) ∧
    exec .noticeRemoval s = .next (if r.kind = 0x41 then
      { s with link := { s.link with phase := .trail }, notices := { s.notices with queue := s.notices.queue.tail } } else s) ∧
    exec .defectRemoval s = .next (if r.kind = 0x42 then
      { s with link := { s.link with phase := .trail }, dfl := s.dfl.removeCarried } else s)

/-- TAKE_DEFECTS marks the first 16 SETTLED entries in list order, clears every other mark, and carries their count and then their
records of 20 bytes, each field by field as section 11.8 lays it out (R84, R176). -/
def Obligations.TakeDefectsSelectsSettledEntries : Prop :=
  ∀ s : State, s.listening = true → ∃ es : List DefectEntry,
    let taken := (s.dfl.entries.filter (·.isSettled)).take 16
    exec (.takeDefects []) s = .next ({ s with dfl := { s.dfl with entries := es } }.replied 0x42 .ok
      (BitVec.ofNat 8 taken.length :: taken.flatMap defectTable)) ∧
    (∀ e : DefectEntry, (defectTable e).length = 20) ∧
    (es.map fun e => { e with carried := false }) = (s.dfl.entries.map fun e => { e with carried := false }) ∧
    es.filter (·.carried) = taken.map fun e => { e with carried := true }

/-- The carried entries leave the list and re-arm the full-notice flag; a side's taken-splice end becomes the greatest end of its taken
splices (R83 to R85). The splice query answers for spans held and for spans taken (R23), so a taking never makes it forget. -/
def Obligations.TakenSplicesStayKnown : Prop :=
  ∀ (d : DefectList) (x : Side) (lo hi : Nat), lo ≤ hi →
    let covers := fun e : DefectEntry => decide (e.kind = .splice) && !trackEmpty (trackInter e.tracks (sideTracks x))
    let d' := d.removeCarried
    d'.entries = d.entries.filter (fun e => !e.carried) ∧
    d'.fullArmed = (d.fullArmed || d.entries.any (·.carried)) ∧ d'.unlisted = d.unlisted ∧ d'.unlistedBy = d.unlistedBy ∧
    d'.takenSplice.get x =
      ((d.takenSplice.get x).toList ++ (d.entries.filter fun e => e.carried && covers e).map (·.last)).max? ∧
    (d.spliced x lo hi = true ↔
      (∃ e ∈ d.entries, covers e = true ∧ ∃ n, lo ≤ n ∧ n ≤ hi ∧ e.start ≤ n ∧ n ≤ e.last) ∨
        ∃ m, d.takenSplice.get x = some m ∧ lo ≤ m) ∧
    (d.spliced x lo hi = true → d'.spliced x lo hi = true)

/-- DISCARD in ENDED empties the defect list and the output queue together and re-arms the list; elsewhere it is refused (R87,
R130). -/
def Obligations.DiscardEmptiesListAndQueue : Prop :=
  ∀ s : State, s.listening = true →
    (s.psc.state = .ended → exec (.discard []) s = .next
      ({ s with dfl := ⟨[], [], ⟨0, 0, 0, 0, 0, 0⟩, true, ⟨none, none⟩⟩, oq := ⟨[], []⟩ }.replied 0x58 .ok [])) ∧
    (s.psc.state ≠ .ended → exec (.discard []) s = .next (s.replied 0x58 .state []))

/-- CLEAR_LINES disarms the lines of its clear mask, then arms those of its arm mask, and answers the six flags; a mask naming a line
above 5 is refused; the effect stands when the reply is cut short (R137). -/
def Obligations.ClearLinesSetsTheStickyFlags : Prop :=
  ∀ (s : State) (clear arm : Byte), s.listening = true →
    (clear.toNat < 64 → arm.toNat < 64 →
      let flag := fun (i : Fin 6) (f : Sticky) =>
        if arm.getLsbD i then Sticky.armed else if clear.getLsbD i then Sticky.disarmed else f
      let lines := s.sns.lines.mapIdx fun i l => { l with sticky := flag i l.sticky }
      let t := { s with sns := { s.sns with lines := lines } }.replied 0x50 .ok
        (lines.toList.map fun l : Line => BitVec.ofNat 8 l.sticky.code)
      exec (.clearLines [clear, arm]) s = .next t ∧ exec .selectRise t = .next { t with link := ⟨.idle, [], 0, none⟩ }) ∧
    (64 ≤ clear.toNat ∨ 64 ≤ arm.toNat → exec (.clearLines [clear, arm]) s = .next (s.replied 0x50 .badValue []))

/-! ### Exchanges, restart and line reset -/

/-- Select falling starts an exchange at HUNT; select rising ends it in whatever phase it stands, and a TAKE_DEFECTS reply cut short
loses its carried marks (R163, R166, R84). While RESET is held select is not read (R175). That a SELECT_FALL inside an exchange changes
nothing is the model's choice (log 8). -/
def Obligations.SelectBoundsAnExchange : Prop :=
  ∀ s : State,
    (s.clock.lineReset = true → exec .selectFall s = .next s ∧ exec .selectRise s = .next s) ∧
    (s.clock.lineReset = false →
      (s.link.phase = .idle → exec .selectFall s = .next { s with link := ⟨.hunt, [], 0, none⟩ }) ∧
      (s.link.phase ≠ .idle → exec .selectFall s = .next s) ∧
      (s.link.phase ∉ [.turnaround, .reply] → exec .selectRise s = .next { s with link := ⟨.idle, [], 0, none⟩ }) ∧
      ∀ r, s.link.phase ∈ [.turnaround, .reply] → s.link.reply = some r →
        (r.status ≠ .ok ∨ r.kind ∉ [0x42, 0x7F] → exec .selectRise s = .next { s with link := ⟨.idle, [], 0, none⟩ }) ∧
        (r.status = .ok → r.kind = 0x42 → exec .selectRise s = .next
          { s with
            link := ⟨.idle, [], 0, none⟩
            dfl := { s.dfl with entries := s.dfl.entries.map fun e => { e with carried := false } } }))

/-- RESTART's own event is its reply; the restart takes effect when the reply is complete or select rises, and leaves the part as R174
says: the settings, base skews and line levels kept, and one PASS notice for IDLE. That RESTART_EFFECT with no RESTART reply in flight
changes nothing, and that it may come in TURNAROUND, are the model's choices (logs 8 and 9). -/
def Obligations.RestartTakesEffectAfterItsReply : Prop :=
  ∀ s : State,
    (s.listening = true → exec (.restart []) s = .next (s.replied 0x7F .ok [])) ∧
    (s.inFlight 0x7F = false → exec .restartEffect s = .next s) ∧
    (s.inFlight 0x7F = true → ∃ t, exec .restartEffect s = .next t ∧
      exec .selectRise s = .next { t with link := ⟨.idle, [], 0, none⟩ } ∧
      t.pending = s.pending ∧ t.clock = s.clock ∧ t.link = { s.link with phase := .trail } ∧
      t.psc = ⟨.idle, none, false, false, s.psc.stored, s.psc.stored,
        192000 * 2 ^ 24 / (s.psc.stored.pass.factor * s.psc.stored.pass.rate),
        classOf (192000 * 2 ^ 24 / (s.psc.stored.pass.factor * s.psc.stored.pass.rate)), []⟩ ∧
      t.cfe = ⟨.stopped, 0, 0, [], .all false, .all ⟨0, 0, 0, false⟩⟩ ∧
      t.crg = ⟨.all [], 0, none, .all false, .all false, .all false, .all false⟩ ∧ t.dfl = ⟨[], [], .zero, true, .all none⟩ ∧
      t.sas = .all .cleared ∧ t.oq = ⟨[], []⟩ ∧ t.notices = ⟨[⟨.pass .idle none 0, 0⟩], 0⟩ ∧
      t.sns = { State.reset.sns with lines := s.sns.lines.map fun l => { l with sticky := .disarmed } } ∧
      (∀ x, (t.rtr.get x).table = [] ∧ (t.rtr.get x).displaced = none ∧ (t.rtr.get x).skewList = [] ∧
        (t.rtr.get x).lock = .off ∧ (t.rtr.get x).pEff = 0 ∧
        (t.rtr.get x).source = (s.psc.stored.sides.get x).source ∧ (t.rsp.get x).baseSkew = (s.rsp.get x).baseSkew ∧
        (t.rsp.get x).state = .off ∧ (t.rsp.get x).position = 0) ∧
      ∀ k, (t.lvm.get k).records = [] ∧ (t.lvm.get k).settled = 0 ∧ (t.lvm.get k).monitored = false)

/-- Releasing RESET leaves the reset state with each line's level taken from its first sample, and ATTN is deasserted while RESET is held
and after its release (R175). That the values of line reset stand from the assertion on is log 22, the LOW levels meanwhile are log 1, and
that a release without RESET held changes nothing is log 8: the model's choices. -/
def Obligations.LineResetLeavesTheResetState : Prop :=
  ∀ (s : State) (levels : PerLine Bool),
    let held : State := { State.reset with pending := s.pending, clock := ⟨s.clock.ticks, true⟩ }
    let free : State := { State.reset with
      pending := s.pending, clock := ⟨s.clock.ticks, false⟩
      sns := { State.reset.sns with lines := levels.map fun b => ⟨b, 0, .disarmed⟩ } }
    exec .lineReset s = .next held ∧ held.attn = false ∧ exec (.resetRelease levels) held = .next free ∧ free.attn = false ∧
    (s.clock.lineReset = true → exec (.resetRelease levels) s = .next free) ∧
    (s.clock.lineReset = false → exec (.resetRelease levels) s = .next s)

/-- The frame of every well-formed request decodes to that request, and no proper prefix of it decodes to anything (R164, R165, R176). -/
def Obligations.RequestFramesDecode : Prop :=
  ∀ (i : Instr) (f : List Byte), i.wellFormed = true → encodeRequest i = some f →
    decodeRequest f = some i ∧ ∀ n, n < f.length → decodeRequest (f.take n) = none

/-- A request's frame clocked in from HUNT takes that request in the event of its last byte (R163, R165). -/
def Obligations.ClockedFrameIsTaken : Prop :=
  ∀ (s : State) (i : Instr) (f : List Byte), i.wellFormed = true → encodeRequest i = some f → s.clock.lineReset = false →
    s.link = ⟨.hunt, [], 0, none⟩ →
    s.clockBytes f = { s with link := ⟨.request, f.dropLast, 0, none⟩ }.after i

/-- A reply is clocked out after two bytes FFh, byte for byte as its frame, and its last byte is the event of its removal or leaves the
exchange in TRAIL (R163, R164, R166). -/
def Obligations.ReplyIsClockedOut : Prop :=
  ∀ (s : State) (r : Reply) (ins : List Byte), s.clock.lineReset = false → s.link = answered r.kind r.status r.payload →
    ins.length = 2 + r.frame.length →
    s.bytesOut ins = [0xFF, 0xFF] ++ r.frame ∧
    s.clockBytes ins = match replyEnd r with
      | some i => { s with link := ⟨.reply, [], r.frame.length - 1, some r⟩ }.after i
      | none => { s with link := ⟨.trail, [], r.frame.length - 1, some r⟩ }

/-! ### Settings -/

/-- SET_SIDE in IDLE or ENDED stores the group with its numeric fields in their ranges, D_thr before R_thr, and echoes it; a value
outside its list is refused and stores nothing (R18, R48, R56, R169). -/
def Obligations.SetSideStoresTheGroup : Prop :=
  ∀ s : State, s.listening = true → s.psc.state ∈ [.idle, .ended] →
    (∀ (x : Side) (g : SideSettings), g.sendable = true →
      let d := max 256 (min 3584 g.dThr)
      let h := { g with
        pNom := if g.pNom = 0 then 0 else max 768 g.pNom, tNom := max 32 g.tNom, confirm := max 1 (min 16 g.confirm)
        holdLimit := max 1 g.holdLimit, acquire := max 1 (min 64 g.acquire), dThr := d, rThr := max (d + 1) (min 4095 g.rThr)
        gMax := max 4096 (min 16384 g.gMax) }
      exec (.setSide (sideBytes x g)) s = .next
        ({ s with psc := { s.psc with stored := { s.psc.stored with sides := s.psc.stored.sides.set x h } } }.replied 0x10
          (if h = g then .ok else .adjusted) (sideBytes x h))) ∧
    ∀ p : List Byte, p.length = 24 → badSideBytes p = true → exec (.setSide p) s = .next (s.replied 0x10 .badValue [])

/-- SET_PASS in IDLE or ENDED stores the pass settings with splice lead, splice guard and high-water in their ranges, and echoes them;
a value outside its list is refused (R43, R133, R169, R173). -/
def Obligations.SetPassStoresTheGroup : Prop :=
  ∀ s : State, s.listening = true → s.psc.state ∈ [.idle, .ended] →
    (∀ g : PassSettings, g.sendable = true →
      let h := { g with
        spliceLead := min 4095 g.spliceLead, spliceGuard := max 1 g.spliceGuard, highWater := max 1 (min 64 g.highWater) }
      exec (.setPass (passBytes g)) s = .next
        ({ s with psc := { s.psc with stored := { s.psc.stored with pass := h } } }.replied 0x11
          (if h = g then .ok else .adjusted) (passBytes h))) ∧
    ∀ p : List Byte, p.length = 12 → badPassBytes p = true → exec (.setPass p) s = .next (s.replied 0x11 .badValue [])

/-- SET_STREAM in IDLE or ENDED stores a descriptor whose channels suit its source, and echoes it; any other value is refused (R118,
R169). -/
def Obligations.SetStreamStoresTheDescriptor : Prop :=
  ∀ s : State, s.listening = true → s.psc.state ∈ [.idle, .ended] →
    (∀ (i : Fin 8) (d : Descriptor), d.ok = true →
      exec (.setStream (streamBytes i d)) s = .next
        ({ s with psc := { s.psc with stored := { s.psc.stored with streams := s.psc.stored.streams.set i d } } }.replied 0x12 .ok
          (streamBytes i d))) ∧
    ∀ p : List Byte, p.length = 7 → badStreamBytes p = true → exec (.setStream p) s = .next (s.replied 0x12 .badValue [])

/-- SET_LINE in IDLE or ENDED stores a line setting and sets the line's debounce count to 0; a second TACHO line and a value outside its
list are refused (R133, R169). -/
def Obligations.SetLineStoresTheSetting : Prop :=
  ∀ s : State, s.listening = true → s.psc.state ∈ [.idle, .ended] →
    (∀ (i : Fin 6) (g : LineSetting), g.debounce ∈ [0, 32, 512, 8192] →
      (g.action ≠ .tacho ∨ (∀ j, j ≠ i → (s.psc.stored.lines.get j).action ≠ .tacho) →
        exec (.setLine (lineBytes i g)) s = .next
          ({ s with
              psc := { s.psc with stored := { s.psc.stored with lines := s.psc.stored.lines.set i g } }
              sns := { s.sns with lines := s.sns.lines.set i { s.sns.lines.get i with count := 0 } } }.replied 0x13 .ok
            (lineBytes i g))) ∧
      (s.psc.stored.oneTacho = true → g.action = .tacho → (∃ j, j ≠ i ∧ (s.psc.stored.lines.get j).action = .tacho) →
        exec (.setLine (lineBytes i g)) s = .next (s.replied 0x13 .badValue []))) ∧
    ∀ p : List Byte, p.length = 6 → badLineBytes p = true → exec (.setLine p) s = .next (s.replied 0x13 .badValue [])

/-! ### Base skew -/

/-- ADJUST_SKEW by step code, in every pass state: the base skew moves by 0, 1, -1, 16 or -16 and saturates at -128 and 127; the reply
carries the side and the new base skew, ADJUSTED when the step was saturated; the change stands when the reply is cut short. A side or
step code outside the table is refused, and a payload of another length is refused (R90). -/
def Obligations.AdjustSkewStepsAndSaturates : Prop :=
  ∀ s : State, s.listening = true →
    (∀ (x : Side) (code : Nat) (step : Int), [0, 1, -1, 16, -16][code]? = some step →
      -128 ≤ (s.rsp.get x).baseSkew → (s.rsp.get x).baseSkew ≤ 127 →
      let b := (s.rsp.get x).baseSkew
      let b' := max (-128) (min 127 (b + step))
      let t := { s with rsp := s.rsp.set x { s.rsp.get x with baseSkew := b' } }.replied 0x20
        (if b' = b + step then .ok else .adjusted) [BitVec.ofNat 8 (sideCode x), BitVec.ofInt 8 b']
      exec (.adjustSkew [BitVec.ofNat 8 (sideCode x), BitVec.ofNat 8 code]) s = .next t ∧
        exec .selectRise t = .next { t with link := ⟨.idle, [], 0, none⟩ }) ∧
    (∀ side code : Byte, 1 < side.toNat ∨ 4 < code.toNat →
      exec (.adjustSkew [side, code]) s = .next (s.replied 0x20 .badValue [])) ∧
    ∀ p : List Byte, p.length ≠ 2 → exec (.adjustSkew p) s = .next (s.replied 0x20 .badLength [])

/-- READ_SKEW answers side, base skew, skew mode (of the pass copy once a pass has been armed), the newest entry's trim, and the measured
means oldest first, and changes nothing; another side is refused (R97, R168). -/
def Obligations.ReadSkewReportsTheSide : Prop :=
  ∀ s : State, s.listening = true →
    (∀ x : Side,
      let mode := if s.psc.armed then (s.psc.pass.sides.get x).skewMode else (s.psc.stored.sides.get x).skewMode
      let means := (s.rtr.get x).skewList
      exec (.readSkew [BitVec.ofNat 8 (sideCode x)]) s = .next (s.replied 0x21 .ok
        ([BitVec.ofNat 8 (sideCode x), BitVec.ofInt 8 (s.rsp.get x).baseSkew, BitVec.ofNat 8 mode.code,
          BitVec.ofInt 8 (s.trimNow x), BitVec.ofNat 8 means.length] ++ means.flatMap (bytesOfNat 2)))) ∧
    ∀ side : Byte, 1 < side.toNat → exec (.readSkew [side]) s = .next (s.replied 0x21 .badValue [])

/-- At every frame skew the R channel's position is the L position moved by S/16 of a sample, its fraction lies in its range, and both
channels read within I - 15 and I + 16 (R95, R96). -/
def Obligations.ChannelsReadWithinTheLookAhead : Prop :=
  ∀ (p : Nat) (base trim : Int) (k : Fin 16),
    let skew := frameSkew base trim
    let i : Int := ((p / 2 ^ 24 : Nat) : Int)
    let pR := rightPosition p skew
    let iR := pR / 2 ^ 24
    skew = max (-128) (min 127 (base + trim)) ∧ pR = p + skew * 2 ^ 20 ∧
    0 ≤ pR - iR * 2 ^ 24 ∧ pR - iR * 2 ^ 24 < 2 ^ 24 ∧ i - 8 ≤ iR ∧ iR ≤ i + 8 ∧
    i - 7 ≤ tapIndex i k ∧ tapIndex i k ≤ i + 8 ∧ i - 15 ≤ tapIndex iR k ∧ tapIndex iR k ≤ i + 16

/-! ### Cues -/

/-- POST_CUE puts the cue, clamped and with its late flag judged anew, into the list in place of an equal one or at its place in the
order, and echoes it as LATE, ADJUSTED or OK; with 16 cues and no equal one it is FULL; a value outside its list is refused (R157). A
SOURCE, LIFT or GMAX cue is late at or below the greatest boundary its owner has reached, a SKEW cue at or below the position the
resampler has passed, a MARK cue below w (R158). Value bytes the kind does not use may hold anything; the reply has 00h there (log 13). -/
def Obligations.PostCueInsertsOrReplaces : Prop :=
  ∀ s : State, s.listening = true → s.psc.state ∈ [.armed, .running, .draining] →
    (∀ (q : Nat) (b : CueBody) (p : List Byte), q < 2 ^ 40 → b.sendable = true → p.length = 11 →
      p.take (7 + b.valueLength) = (cueBytes ⟨q, b, false⟩).take (7 + b.valueLength) →
      let late : Bool := match b with
        | .source x _ _ => (s.rtr.get x).boundary.any (q ≤ ·)
        | .lift x _ => (s.lvm.get x.left).boundary.any (q ≤ ·)
        | .gMax x _ => (s.lvm.get x.left).boundary.any (q ≤ ·)
        | .skew x _ => (s.rsp.get x).passed.any (q ≤ ·)
        | .mark _ => q < s.crg.w
      let c : Cue := ⟨q, b.clamped, late⟩
      b.clamped.ok = true ∧ (b.ok = true → b.clamped = b) ∧
      ((∃ d ∈ s.psc.cues, d.same c = true) ∨ s.psc.cues.length < 16 → ∃ cs : List Cue,
        exec (.postCue p) s = .next ({ s with psc := { s.psc with cues := cs } }.replied 0x28
          (if c.late then .late else if b.clamped = b then .ok else .adjusted) (cueBytes c)) ∧
        (∀ d, d ∈ cs ↔ d = c ∨ (d ∈ s.psc.cues ∧ d.same c = false)) ∧
        (cuesOrdered s.psc.cues → cuesOrdered cs) ∧ (s.psc.cues.length ≤ 16 → cs.length ≤ 16)) ∧
      ((∀ d ∈ s.psc.cues, d.same c = false) → 16 ≤ s.psc.cues.length →
        exec (.postCue p) s = .next (s.replied 0x28 .full []))) ∧
    ∀ p : List Byte, p.length = 11 → badCueBytes p = true → exec (.postCue p) s = .next (s.replied 0x28 .badValue [])

/-- DROP_CUE takes the named cue out of the list without taking it, or answers NOT_FOUND; it queues no notice; an unknown kind, a target
that does not suit the kind and a mask naming no track are refused (R160). -/
def Obligations.DropCueRemovesTheNamedCue : Prop :=
  ∀ (s : State) (p : List Byte), s.listening = true → s.psc.state ∈ [.armed, .running, .draining] → p.length = 7 →
    let named := fun c : Cue =>
      decide (c.position = natOfBytes (p.take 5) ∧ c.body.kind = byteAt p 5 ∧ c.body.targetCode = byteAt p 6)
    (badCueName (byteAt p 5) (byteAt p 6) = true → exec (.dropCue p) s = .next (s.replied 0x29 .badValue [])) ∧
    (badCueName (byteAt p 5) (byteAt p 6) = false →
      (s.psc.cues.any named = true → exec (.dropCue p) s = .next
        ({ s with psc := { s.psc with cues := s.psc.cues.filter fun c => !named c } }.replied 0x29 .ok [])) ∧
      (s.psc.cues.any named = false → exec (.dropCue p) s = .next (s.replied 0x29 .notFound [])))

/-! ### Passes -/

/-- ARM refused with BAD_SETUP names the first of its three checks that fails and the lowest-numbered stream or side concerned, and
changes nothing (R149, R168; the lowest number is the model's choice, log 12). -/
def Obligations.ArmNamesTheFailedCheck : Prop :=
  ∀ s : State, s.listening = true → s.psc.state = .idle ∨ (s.psc.state = .ended ∧ s.oq.blocks = []) →
    let g := s.psc.stored
    ((∀ i, (g.streams.get i).enabled = false) → exec (.arm []) s = .next (s.replied 0x30 .badSetup [1, 0])) ∧
    (∀ i : Fin 8, (g.streams.get i).orphan g = true → (∀ j, j < i → (g.streams.get j).orphan g = false) →
      exec (.arm []) s = .next (s.replied 0x30 .badSetup [2, BitVec.ofNat 8 i])) ∧
    ((∃ i, (g.streams.get i).enabled = true) → (∀ i, (g.streams.get i).orphan g = false) →
      (∀ j, (g.lines.get j).action ≠ .tacho) →
      (g.deckSide .A = true → exec (.arm []) s = .next (s.replied 0x30 .badSetup [3, 0])) ∧
      (g.deckSide .A = false → g.deckSide .B = true → exec (.arm []) s = .next (s.replied 0x30 .badSetup [3, 1])))

/-- ARM with a valid set-up copies the settings into the pass, starts the settle of 4096 wide samples, sets w to 0, empties every
collection of the pass and queues a PASS notice; the output queue, the lines and the base skews are kept (R150, R17, R41, R73, R88,
R98, R117, R131, R147). -/
def Obligations.ArmSetsUpThePass : Prop :=
  ∀ s : State, s.listening = true → s.psc.state = .idle ∨ (s.psc.state = .ended ∧ s.oq.blocks = []) →
    let g := s.psc.stored
    let nominal := 192000 * 2 ^ 24 / (g.pass.factor * g.pass.rate)
    (∃ i, (g.streams.get i).enabled = true) →
    (∀ i x l r, (g.streams.get i).enabled = true → (g.streams.get i).source = .side x l r → (g.sides.get x).enabled = true) →
    (∀ x, (g.sides.get x).enabled = true → (g.sides.get x).source = .deck → ∃ j, (g.lines.get j).action = .tacho) →
    ∃ t, exec (.arm []) s = .next t ∧ t.link = answered 0x30 .ok [1, 0] ∧
      t.psc = ⟨.armed, none, false, true, g, g, nominal, classOf nominal, []⟩ ∧
      t.cfe = ⟨.settling, 4096, 0, [], watchedTracks g, .all ⟨0, 0, 0, false⟩⟩ ∧
      t.crg = ⟨.all [], 0, none, g.sides.map (·.enabled), g.streams.map (·.isRaw), .all false, .all false⟩ ∧
      t.dfl = ⟨[], [], .zero, true, .all none⟩ ∧ t.sas = .all .cleared ∧ t.oq = s.oq ∧
      t.notices = s.notices.push ⟨.pass .armed none 0, 0⟩ ∧ t.sns = { State.reset.sns with lines := s.sns.lines } ∧
      t.pending = s.pending ∧ t.clock = s.clock ∧
      (∀ x, (t.rtr.get x).source = (g.sides.get x).source ∧ (t.rtr.get x).pEff = (g.sides.get x).pNom ∧
        (t.rtr.get x).lock = .off ∧ (t.rtr.get x).table = [] ∧ (t.rtr.get x).displaced = none ∧ (t.rtr.get x).skewList = [] ∧
        (t.rtr.get x).lower = nominal * (1000 - (g.sides.get x).speedWindow) / 1000 ∧
        (t.rtr.get x).upper = ceilDiv (nominal * (1000 + (g.sides.get x).speedWindow)) 1000 ∧
        t.rsp.get x = ⟨.off, 0, 0, none, false, .none, (s.rsp.get x).baseSkew⟩) ∧
      ∀ k, (t.lvm.get k).monitored = (g.sides.get k.side).enabled ∧ (t.lvm.get k).lift = (g.sides.get k.side).lift ∧
        (t.lvm.get k).gMax = (g.sides.get k.side).gMax ∧ (t.lvm.get k).records = [] ∧ (t.lvm.get k).settled = 0

/-- START in ARMED enters RUNNING when the converters are settled, with the PASS notice and then the CUE notices of boundary 0, the locks in
SEARCH or OFF and the wait causes ENTRY or NONE; otherwise it sets the start-pending flag; in RUNNING, or with a start pending, it is
ALREADY and changes nothing (R151, R155, R156, R159, R27, R103, R117, R168). That ALREADY carries the reply payload is the model's choice
(log 12), and so is the order of boundary 0 (log 18). -/
def Obligations.StartBeginsCapture : Prop :=
  ∀ s : State, s.listening = true →
    (s.psc.state = .armed → s.psc.startPending = false → s.cfe.converter ≠ .settled → exec (.start []) s = .next
      ({ s with psc := { s.psc with startPending := true } }.replied 0x31 .ok [1, 1])) ∧
    (s.psc.state = .armed → s.psc.startPending = false → s.cfe.converter = .settled → ∃ t, exec (.start []) s = .next t ∧
      t.link = answered 0x31 .ok [2, 0] ∧ s.begunAs t) ∧
    (s.psc.state = .running ∨ (s.psc.state = .armed ∧ s.psc.startPending = true) → exec (.start []) s = .next
      (s.replied 0x31 .already [BitVec.ofNat 8 s.psc.state.code, BitVec.ofNat 8 (boolCode s.psc.startPending)]))

/-- STOP in RUNNING ends capture with E = w into DRAINING; in DRAINING it is ALREADY; STOP and ABORT in ARMED return the pass to IDLE and
count the cues they discard (R152, R153, R155, R161, R7, R146). That ALREADY carries the reply payload is the model's choice (log 12). -/
def Obligations.StopEndsCapture : Prop :=
  ∀ s : State, s.listening = true →
    (s.psc.state = .armed → ∀ kind : Byte, kind = 0x32 ∨ kind = 0x33 →
      exec (if kind = 0x32 then .stop [] else .abort []) s = .next
        ({ s with
            cfe := { s.cfe with converter := .stopped, settleCount := 0, gathered := [] }
            psc := { s.psc with state := .idle, startPending := false, cues := [] }
            notices := s.notices.push ⟨.pass .idle none s.psc.cues.length, 0⟩ }.replied kind .ok [0, 0])) ∧
    (s.psc.state = .draining → exec (.stop []) s = .next
      (s.replied 0x32 .already [3, BitVec.ofNat 8 (boolCode s.psc.startPending)])) ∧
    (s.psc.state = .running → ∃ t, exec (.stop []) s = .next t ∧
      t.link = answered 0x32 .ok [3, BitVec.ofNat 8 (boolCode s.psc.startPending)] ∧
      t.psc = { s.psc with state := .draining, cause := some .stopped } ∧ t.crg.e = some s.crg.w ∧ t.crg.w = s.crg.w ∧
      t.crg.rings = s.crg.rings ∧ t.cfe.converter = .stopped ∧ t.cfe.gathered = [] ∧ t.cfe.settleCount = 0 ∧
      t.cfe.watched = s.cfe.watched ∧ t.pending = s.pending ∧ t.clock = s.clock ∧
      t.sns = { s.sns with
        splices := [], timer := none, discarded := min 255 (s.sns.discarded + s.sns.splices.length) } ∧
      (∀ k, (t.lvm.get k).settled = (if (s.lvm.get k).monitored then s.crg.w + 16 else (s.lvm.get k).settled)) ∧
      ∀ x, (t.rsp.get x).position = (s.rsp.get x).position ∧ (t.rsp.get x).baseSkew = (s.rsp.get x).baseSkew ∧
        ((s.rsp.get x).state = .active →
          (t.rsp.get x).state = if (s.rsp.get x).index < s.crg.w then .draining else .finished))

/-- ABORT in RUNNING or DRAINING enters ENDED with cause ABORTED: every cue is discarded and counted in the one PASS notice, with origin E,
every stream buffer is discarded and counted, resamplers and streams go OFF, every defect entry settles, and the blocks queued stay (R153,
R154, R156, R161, R86, R130). -/
def Obligations.AbortEndsThePass : Prop :=
  ∀ s : State, s.listening = true → s.psc.state ∈ [.running, .draining] → ∃ t, exec (.abort []) s = .next t ∧
    t.link = answered 0x33 .ok [4, 0] ∧
    t.psc = { s.psc with state := .ended, cause := some .aborted, startPending := false, cues := [] } ∧
    t.oq = { s.oq with granted := [] } ∧ t.crg.w = s.crg.w ∧ t.crg.rings = s.crg.rings ∧ t.pending = s.pending ∧
    t.clock = s.clock ∧
    (s.psc.state = .running → t.crg.e = some s.crg.w ∧ t.cfe.converter = .stopped ∧ t.cfe.gathered = [] ∧
      t.notices = s.notices.push ⟨.pass .ended (some .aborted) s.psc.cues.length, s.crg.w⟩ ∧
      t.sns.splices = [] ∧ t.sns.discarded = min 255 (s.sns.discarded + s.sns.splices.length)) ∧
    (s.psc.state = .draining → t.crg = s.crg ∧ t.cfe = s.cfe ∧ t.sns = s.sns ∧ t.lvm = s.lvm ∧
      ∀ e, s.crg.e = some e → t.notices = s.notices.push ⟨.pass .ended (some .aborted) s.psc.cues.length, e⟩) ∧
    (∀ x, (t.rsp.get x).state = .off ∧ (t.rsp.get x).position = (s.rsp.get x).position ∧
      (t.rsp.get x).baseSkew = (s.rsp.get x).baseSkew ∧ (t.rtr.get x).lock = .off) ∧
    (∀ i, (t.sas.get i).state = .off ∧ (t.sas.get i).buffer = [] ∧ (t.sas.get i).emit = (s.sas.get i).emit ∧
      (t.sas.get i).discards = (s.sas.get i).discards + (s.sas.get i).buffer.length) ∧
    ∀ e ∈ t.dfl.entries, e.settled = true ∧ e.openBy = []

/-- The settle end moves the converters to SETTLED, and a pending start then enters RUNNING as a START does; the limit event ends capture with
E = 2^40 - 1 and cause LIMIT; where neither can be raised nothing happens (R2, R6, R27, R117, R151, R152, R156; log 8, and log 18 for the
order of boundary 0). -/
def Obligations.SettleEndAndLimit : Prop :=
  ∀ s : State,
    (s.cfe.converter = .settling → s.psc.startPending = false → exec .settleEnd s = .next
      { s with cfe := { s.cfe with converter := .settled, settleCount := 0 } }) ∧
    (s.cfe.converter = .settling → s.psc.startPending = true → ∃ t, exec .settleEnd s = .next t ∧
      s.begunAs t ∧ t.link = s.link) ∧
    (s.cfe.converter ≠ .settling → exec .settleEnd s = .next s) ∧
    (s.psc.state = .running → s.crg.w = 2 ^ 40 - 1 → ∃ t, exec .limitEvent s = .next t ∧
      t.psc = { s.psc with state := .draining, cause := some .limit } ∧ t.crg.e = some (2 ^ 40 - 1) ∧
      t.crg.w = 2 ^ 40 - 1 ∧ t.crg.rings = s.crg.rings ∧ t.cfe.converter = .stopped ∧ t.cfe.gathered = [] ∧
      t.sns.lines = s.sns.lines ∧ t.link = s.link ∧ t.pending = s.pending ∧ t.clock = s.clock) ∧
    (s.psc.state ≠ .running ∨ s.crg.w ≠ 2 ^ 40 - 1 → exec .limitEvent s = .next s)

/-- When every enabled stream has emitted its final block in DRAINING, the pass enters ENDED with its cause kept: cues discarded and
counted in the PASS notice, every defect entry settled, every lock OFF (R154, R126, R156, R86). That no resampler is then DRAINING is log
16's deduction, and that the command changes nothing where draining is not complete is log 8: the model's choices. -/
def Obligations.CompletionEntersEnded : Prop :=
  ∀ s : State,
    let done := s.psc.state = .draining ∧ ∀ i, (s.psc.pass.streams.get i).enabled = true → (s.sas.get i).state = .done
    (done → ∃ t, exec .completionOfDraining s = .next t ∧
      t.psc = { s.psc with state := .ended, startPending := false, cues := [] } ∧ t.crg = s.crg ∧ t.cfe = s.cfe ∧
      t.lvm = s.lvm ∧ t.sas = s.sas ∧ t.oq = s.oq ∧ t.sns = s.sns ∧ t.link = s.link ∧ t.pending = s.pending ∧
      t.clock = s.clock ∧
      t.notices = s.notices.push ⟨.pass .ended s.psc.cause s.psc.cues.length, s.crg.e.getD 0⟩ ∧
      t.dfl = { s.dfl with
        entries := s.dfl.entries.map fun e => { e with settled := true, openBy := [] }, unlistedBy := [] } ∧
      ∀ x, (t.rtr.get x).lock = .off ∧ (t.rsp.get x).state ≠ .draining ∧
        (t.rsp.get x).baseSkew = (s.rsp.get x).baseSkew) ∧
    (¬done → exec .completionOfDraining s = .next s)

/-! ### Capture -/

/-- A group event below the limit of the capture index writes each track's mean at w, keeps every other slot, and raises w by one; a
consumer then reads the new sample at w and the samples before it that are still retained (R3 to R6, R11, R12). Where the converters are
not capturing nothing happens (log 8); the wide ticks the group lacked pass at the tacho and stall timers (log 7). -/
def Obligations.GroupEventWritesTheRings : Prop :=
  ∀ (s : State) (g : WideGroup),
    (s.cfe.converter ≠ .capturing ∨ 2 ^ 40 - 1 ≤ s.crg.w → exec (.groupEvent g) s = .next s) ∧
    (s.cfe.converter = .capturing → s.crg.w < 2 ^ 40 - 1 → s.ringsOk = true → ∃ t, exec (.groupEvent g) s = .next t ∧
      t.crg.w = s.crg.w + 1 ∧ t.crg.e = s.crg.e ∧ t.cfe.wideCount = 4 * (s.crg.w + 1) ∧ t.cfe.gathered = [] ∧
      (∀ k : Track,
        let y := ((g.get k).w0.toInt + (g.get k).w1.toInt + (g.get k).w2.toInt + (g.get k).w3.toInt + 2) / 4
        (∀ j, ringRead (t.crg.rings.get k) j = if j = s.crg.w % 65536 then y else ringRead (s.crg.rings.get k) j) ∧
        (s.crg.w < t.crg.w ∧ t.crg.read k s.crg.w = y) ∧
        ∀ n : Int, (s.crg.w : Int) - 65535 ≤ n → n < s.crg.w → t.crg.read k n = s.crg.read k n) ∧
      t.cfe.converter = .capturing ∧ t.cfe.watched = s.cfe.watched ∧ t.crg.sideConsumer = s.crg.sideConsumer ∧
      t.crg.streamConsumer = s.crg.streamConsumer ∧ t.oq = s.oq ∧ t.link = s.link ∧ t.pending = s.pending ∧
      t.clock = s.clock ∧
      t.sns = { s.sns with
        tacho := if s.sns.reference then min 65535 (s.sns.tacho + (4 - s.cfe.gathered.length)) else s.sns.tacho
        timer := s.sns.timer.map fun n => max 1 (n - (4 - s.cfe.gathered.length)) } ∧
      t.psc = { s.psc with cues := t.psc.cues } ∧ t.psc.cues.Sublist s.psc.cues)

/-- Before it writes, the group event moves every consumer whose oldest-needed index is at or below w - 65,536 to w - 61,440, with a loss
mark and an open LOST span, and leaves every other consumer where it stands (R13, R14, R16). For each jump the LOST span from max(0, old)
to w - 61,440 goes to the defect list and a LOSS notice with origin w joins the queue (R15, R16), side A, side B, then the streams (the
order is log 6's choice); the rest of the event follows on that. -/
def Obligations.OverrunJumpsTheConsumer : Prop :=
  ∀ (s : State) (g : WideGroup), s.capturing = true → ∃ t, exec (.groupEvent g) s = .next t ∧
    let w := s.crg.w
    let sideBehind := fun x : Side => s.crg.sideConsumer.get x &&
      decide (65536 ≤ w ∧ (((s.rsp.get x).position / 2 ^ 24 : Nat) : Int) - 15 ≤ (w : Int) - 65536)
    let rawBehind := fun i : Fin 8 => (s.rawTracks i).isSome && s.crg.streamConsumer.get i &&
      decide (65536 ≤ w ∧ (s.sas.get i).r + 65536 ≤ w)
    let span := fun (old : Int) (ts : TrackSet) (i : Option (Fin 8)) (q : Reporter) =>
      Report.span ⟨.lost, ts, (max 0 old).toNat, w - 61440 - (max 0 old).toNat, none, none, i, false, some q⟩
    let jumps : List (Report × NoticeBody) :=
      (([Side.A, .B].filter sideBehind).map fun x =>
        (span ((((s.rsp.get x).position / 2 ^ 24 : Nat) : Int) - 15) (sideTracks x) none (.lossSide x), .lossSide x)) ++
      ((streamList.filter rawBehind).map fun i =>
        (span (s.sas.get i).r ((s.rawTracks i).getD (.all false)) (some i) (.lossStream i), .lossStream i))
    let told := jumps.foldl (fun u j => (u.report j.1).notify j.2 w) s
    let checked := s.passTicks.overrunCheck
    checked.dfl = told.dfl ∧ checked.notices = told.notices ∧ t = checked.captureGroup g ∧
    told.notices.queue <+: t.notices.queue ∧ told.notices.lost ≤ t.notices.lost ∧
    (∀ x : Side,
      let r := s.rsp.get x
      (sideBehind x = true → t.rsp.get x = { r with position := (w - 61425) * 2 ^ 24, loss := true, wait := (t.rsp.get x).wait } ∧
        t.crg.sideLost.get x = true) ∧
      (sideBehind x = false → t.rsp.get x = { r with wait := (t.rsp.get x).wait } ∧
        t.crg.sideLost.get x = s.crg.sideLost.get x)) ∧
    ∀ i : Fin 8,
      let st := s.sas.get i
      (rawBehind i = true → t.sas.get i = { st with r := w - 61440, loss := true } ∧ t.crg.streamLost.get i = true) ∧
      (rawBehind i = false → t.sas.get i = st ∧ t.crg.streamLost.get i = s.crg.streamLost.get i)

/-- A run of n full-scale samples from wide index u reports nothing while n is below 4; the fourth sample reports one OPEN CLIP span from
u/4, and each later report extends that span; a sample below full scale closes the span at the last full-scale sample and leaves the
detector idle (R9, R10). -/
def Obligations.ClipRunMakesOneSpan : Prop :=
  ∀ (k : Track) (u : Nat) (xs : List Int), xs ≠ [] → (∀ x ∈ xs, 8388592 ≤ x.natAbs) →
    let n := xs.length
    let out := clipRun k u xs ⟨0, 0, 0, false⟩
    out.1 = ⟨min n 4, u, u + n - 1, decide (4 ≤ n)⟩ ∧
    (n < 4 → out.2 = []) ∧
    (4 ≤ n →
      out.2.head? = some (.span ⟨.clip, oneTrack k, u / 4, (u + 3) / 4 - u / 4 + 1, none, none, none, false, some (.clip k)⟩) ∧
      ∀ r ∈ out.2.tail, ∃ v, u + 4 ≤ v ∧ v < u + n ∧
        r = .growth ⟨.clip k, some (u / 4, v / 4 - u / 4 + 1), none, none, false⟩) ∧
    ∀ x : Int, x.natAbs < 8388592 → clipSample k (u + n) x out.1 = (⟨0, 0, 0, false⟩,
      if 4 ≤ n then [.growth ⟨.clip k, some (u / 4, (u + n - 1) / 4 - u / 4 + 1), none, none, true⟩] else [])

/-! ### Tracking and speed -/

/-- A rising crossing between the held value a and the new value b lies at 256u + floor(256(-a)/(b - a)), from 256u to 256u + 256; the new
value is held; no crossing is found while no value is held, as at the start of capture (R20). -/
def Obligations.RisingCrossingIsInterpolated : Prop :=
  (∀ (f : FilteredTrack) (u : Nat) (a b : Int), f.held = some a →
    let q := 256 * (-a) / (b - a)
    (a < 0 → 0 ≤ b → f.crossing (u + 1) b = some (256 * u + q.toNat) ∧
      f.take (u + 1) b = { f with held := some b, latest := some (256 * u + q.toNat) } ∧ 0 ≤ q ∧ q ≤ 256 ∧
      (q = 256 ↔ b = 0)) ∧
    (0 ≤ a ∨ b < 0 → f.crossing (u + 1) b = none ∧ f.take (u + 1) b = { f with held := some b })) ∧
  (∀ (f : FilteredTrack) (v : Nat) (b : Int), f.held = none → f.crossing v b = none ∧ f.take v b = { f with held := some b }) ∧
  ∀ (t : Tracker) (on : Bool) (nominal : Nat),
    (t.enterRunning on nominal).left.held = none ∧ (t.enterRunning on nominal).right.held = none

/-- Every raw step an IN window gives lies within the side's speed bounds (R24, R25, R45 to R47). -/
def Obligations.RawStepsStayInBounds : Prop :=
  ∀ (t : Tracker) (c : Closing) (r : Nat), c.settings.ok = true → 0 < c.length → t.rawStep c (t.verdict c) = some r →
    t.verdict c = some .inside ∧ lowerBound c.nominal c.settings.speedWindow ≤ r ∧ r ≤ upperBound c.nominal c.settings.speedWindow

/-- Outside acquisition a window close moves lock, confirm count and hold count as R28's table says, and the entry carries the lock after
the close; so Cn IN windows confirm a lock from SEARCH, and a lock survives Hl rejected windows and lapses at the next (R28). In
acquisition (SEARCH under a BIAS source with P_eff 0) IN windows are summed; the A-th sets P_eff to their mean period and the lock to
CONFIRM; NO_REF starts the sums again; any other verdict leaves them (R29). -/
def Obligations.LockFollowsTheTable : Prop :=
  (∀ (t : Tracker) (c : Closing) (v : Verdict), t.verdict c = some v → t.acquiring = false →
    ((t.close c).lock, (t.close c).confirm, (t.close c).hold) =
      lockAfter t.lock t.confirm t.hold c.settings.confirm c.settings.holdLimit v ∧
    (t.entryOf c).lock = (t.close c).lock) ∧
  (∀ (t : Tracker) (limit : Nat) (cs : List Closing), t.lock = .locked → 1 ≤ limit → cs ≠ [] → t.allRejected limit cs →
    (cs.length ≤ limit → (t.closes cs).lock = .hold ∧ (t.closes cs).hold = cs.length) ∧
    (limit < cs.length → (t.closes cs).lock = .lapsed ∧ (t.closes cs).hold = 0)) ∧
  ∀ (t : Tracker) (c : Closing) (v : Verdict), t.verdict c = some v → t.lock = .search → t.source ∈ [.biasL, .biasR, .biasBoth] →
    t.pEff = 0 →
    let u := t.close c
    let e := t.entryOf c
    let n := t.acqN + e.n
    let p := t.acqP + e.pSum
    e.lock = u.lock ∧ e.rawStep = none ∧ u.hold = t.hold ∧
    (v = .inside → t.acqCount + 1 = c.settings.acquire →
      u.pEff = max 768 (min 65535 ((2 * p + n) / (2 * n))) ∧ (u.acqCount, u.acqN, u.acqP) = (0, 0, 0) ∧
      (u.lock, u.confirm) = (.confirm, 0)) ∧
    (v = .inside → t.acqCount + 1 ≠ c.settings.acquire →
      u.pEff = 0 ∧ (u.acqCount, u.acqN, u.acqP) = (t.acqCount + 1, n, p) ∧ (u.lock, u.confirm) = (.search, t.confirm)) ∧
    (v = .noRef → u.pEff = 0 ∧ (u.acqCount, u.acqN, u.acqP) = (0, 0, 0) ∧ (u.lock, u.confirm) = (.search, t.confirm)) ∧
    (v ≠ .inside → v ≠ .noRef →
      u.pEff = 0 ∧ (u.acqCount, u.acqN, u.acqP) = (t.acqCount, t.acqN, t.acqP) ∧ (u.lock, u.confirm) = (.search, t.confirm))

/-- A window close writes one entry, keeps the other entries of the table's span but for their applied steps, clears the window sums, and
finalises every entry up to h windows back, or all of them at the end of capture, each with the mean of its members' base steps rounded
half up (R22, R34, R37, R49 to R52). The entry holds the window's n and P_sum, its raw step (R36, R45, R46), the base step by verdict and
lock (R35), the trim measured or carried over (R39) and the lock after the close; the skew list takes the window's mean, the oldest of 8
leaving first (R40). The entry whose slot the end-of-capture close takes stays readable beside the table (R51, R101, R102; log 31). A DECK
window's n 1 under SHORT or SPLICE is log 21, a LOCKED window with no raw step log 25. -/
def Obligations.WindowCloseWritesTheEntry : Prop :=
  ∀ (t : Tracker) (c : Closing), c.settings.ok = true →
    let slots := 65536 / c.settings.window
    let h := (c.settings.smoothing - 1) / 2
    let u := t.close c
    let bare := fun e : SpeedEntry => { e with appliedStep := none }
    let v := t.verdict c
    let e := t.entryOf c
    let older := if t.windows = 0 then none else tableEntry t.table slots (t.windows - 1)
    let sums := t.sums
    let bias := t.source ∈ [.biasL, .biasR, .biasBoth]
    (e.window, e.verdict, e.appliedStep, e.lock) = (t.windows, v, none, if t.source = .none then .off else u.lock) ∧
    (e.n, e.pSum) = (match t.source with
      | .none => (sums.nL, sums.pL)
      | .biasL => (sums.nL, sums.pL)
      | .biasR => (sums.nR, sums.pR)
      | .biasBoth => (sums.nL + sums.nR, sums.pL + sums.pR)
      | .deck => (if c.period.isSome then 1 else 0, c.period.getD 0)) ∧
    e.rawStep = (if v = some .inside ∧ bias ∧ t.pEff ≠ 0 then
        some ((2 * (c.nominal * e.pSum) + e.n * t.pEff) / (2 * (e.n * t.pEff)))
      else if v = some .inside ∧ t.source = .deck then
        some ((2 * (c.nominal * e.pSum) + c.settings.tNom) / (2 * c.settings.tNom))
      else none) ∧
    e.baseStep = (if v = some .short then (older.map (·.baseStep)).getD c.nominal
      else if u.lock = .locked then e.rawStep.getD t.lastAccepted
      else if u.lock = .hold then t.lastAccepted
      else c.nominal) ∧
    u.lastAccepted = (if u.lock = .locked ∧ v ≠ some .short then e.baseStep else t.lastAccepted) ∧
    e.trim = (if c.settings.skewMode = .auto ∧ v = some .inside ∧ c.length * 1024 ≤ sums.pL * 2 ∧
          c.length * 1024 ≤ sums.pR * 2 ∧ 1 ≤ sums.offsetCount then
        min 8 (((2 * sums.offsetSum + 64 * sums.offsetCount) / (128 * sums.offsetCount) : Nat) : Int)
      else (older.map (·.trim)).getD 0) ∧
    u.skewList = (if sums.offsetCount = 0 then t.skewList
      else (t.skewList ++ [sums.offsetSum / sums.offsetCount]).drop (t.skewList.length + 1 - 8)) ∧
    u.windows = t.windows + 1 ∧ u.sums = .zero ∧ u.source = t.source ∧ u.left = t.left ∧ u.right = t.right ∧
    (tableEntry u.table slots t.windows).map bare = some e ∧
    (∀ k, k < t.windows → t.windows < k + slots →
      (tableEntry u.table slots k).map bare = (tableEntry t.table slots k).map bare) ∧
    u.displaced = (if c.atEnd then slotFind t.table (t.windows % slots) else t.displaced) ∧
    (c.atEnd = true → ∀ k e, k ≠ t.windows → tableEntry t.table slots k = some e → (u.entry slots k).map bare = some (bare e)) ∧
    u.final = max t.final (if c.atEnd then t.windows + 1 else t.windows + 1 - h) ∧
    ∀ k e, tableEntry u.table slots k = some e → t.final ≤ k → k < u.final →
      let steps := memberSteps u.table slots h k
      e.appliedStep = some (if e.lock = .off then e.baseStep else (2 * steps.sum + steps.length) / (2 * steps.length))

/-! ### Dropouts -/

/-- A decided tick's class and gain follow R64's table, from the lift and Gmax of its record and the frozen level of its span; every gain
lies from 4096 to the tick's Gmax, and an envelope above the frozen level is never lowered (R64). -/
def Obligations.DropoutGainsFollowTheTable : Prop :=
  ∀ (r : TickRecord) (level : Nat), 4096 ≤ r.gMax → r.gMax ≤ 16384 →
    let u := 4096 * level / max r.envelope 1
    r.outside = { r with membership := .outside, tickClass := some .outside, gain := some 4096 } ∧
    (r.lift = false → r.inside level = { r with membership := .inside, tickClass := some .unlifted, gain := some 4096 }) ∧
    (r.lift = true → u ≤ r.gMax →
      r.inside level = { r with membership := .inside, tickClass := some .lifted, gain := some (max 4096 u) }) ∧
    (r.lift = true → r.gMax < u →
      r.inside level = { r with membership := .inside, tickClass := some .limited, gain := some r.gMax }) ∧
    (∃ gain, (r.inside level).gain = some gain ∧ 4096 ≤ gain ∧ gain ≤ r.gMax) ∧
    (r.lift = true → level < r.envelope → (r.inside level).tickClass = some .lifted ∧ (r.inside level).gain = some 4096) ∧
    (r.lift = true → r.envelope = 0 → 4 < level → (r.inside level).tickClass = some .limited)

/-- The completion of a tick keeps the agreement of a detector's run, span and records, sets the settled index to 16 (t - Dd + 1), and
leaves every record of a tick below it decided, with its class and gain (R57, R58, R60, R67). The end of capture decides every record,
ends the span at E - 1, sets the settled index to E + 16, and records the partial final tick, INSIDE an open span or else OUTSIDE (R71),
beside the ring, whose records it replaces none of (log 29's deduction). -/
def Obligations.TickCompletionKeepsSettledDecided : Prop :=
  ∀ (m : Monitor) (g : SideSettings) (k : Track), g.debounce ∈ [1, 4, 16, 64] → m.tickOk g = true →
    (∀ part : Nat, part < 16 →
      let e := 16 * m.ticks + part
      let f := (m.finish k e).1
      f.settled = e + 16 ∧ f.state = .quiet ∧ f.span = none ∧ (part = 0 → f.finalTick = m.finalTick) ∧
      (part ≠ 0 → ∃ r, f.finalTick = some r ∧ f.record m.ticks = some r ∧
        (r.tick, r.envelope, r.lift, r.gMax) = (m.ticks, m.peak, m.lift, m.gMax) ∧
        match m.span with
        | none => r = { r with membership := .outside, tickClass := some .outside, gain := some 4096 }
        | some p => r.membership = .inside ∧ r.tickClass = some (r.classInside p.level) ∧ r.gain = some (r.gainInside p.level)) ∧
      (∀ t, (tickRecord f.records t).map (fun r => (r.tick, r.envelope, r.lift, r.gMax)) =
        (tickRecord m.records t).map fun r => (r.tick, r.envelope, r.lift, r.gMax)) ∧
      (∀ t r, tickRecord f.records t = some r → r.membership ≠ .pending ∧ r.tickClass.isSome = true ∧ r.gain.isSome = true) ∧
      ((m.finish k e).2.map fun r => match r with
          | .growth q => (q.range, q.closes)
          | .span _ => (none, false)) =
        m.span.toList.map fun p => (some (16 * p.first, e - 16 * p.first), true)) ∧
    let u := (m.completeTick g k).1
    u.tickOk g = true ∧ u.ticks = m.ticks + 1 ∧ u.peak = 0 ∧ u.settled = 16 * (m.ticks + 1 - g.debounce) ∧
    (tickRecord u.records m.ticks).map (fun r => (r.envelope, r.lift, r.gMax)) = some (m.peak, m.lift, m.gMax) ∧
    ∀ t r, tickRecord u.records t = some r → 16 * t < u.settled →
      r.membership ≠ .pending ∧ r.tickClass.isSome = true ∧ r.gain.isSome = true

/-! ### Defect list -/

/-- With 512 entries held, a span that meets none is counted and not stored, its open reporter marked unlisted, and the first such refusal
queues DEFECTS_FULL; a span that meets n entries is merged, and the count falls by n - 1 (R78, R83). -/
def Obligations.FullListCountsUnlistedSpans : Prop :=
  ∀ (s : State) (r : SpanReport), s.dfl.entries.length = 512 →
    let met := s.dfl.entries.filter r.entry.meets
    let t := s.takeSpan r
    t = { s with dfl := t.dfl, notices := t.notices } ∧
    (met = [] → t.dfl.entries.length = 512 ∧ t.dfl.unlisted = s.dfl.unlisted.bump r.kind ∧ t.dfl.fullArmed = false ∧
      (∀ q, r.openAs = some q → q ∈ t.dfl.unlistedBy) ∧
      t.notices = if s.dfl.fullArmed then s.notices.push ⟨.defectsFull r.kind, s.crg.w⟩ else s.notices) ∧
    (met ≠ [] → t.dfl.entries.length + met.length = 513 ∧ t.dfl.unlisted = s.dfl.unlisted ∧
      t.dfl.fullArmed = s.dfl.fullArmed ∧ t.notices = s.notices)

/-! ### Frames and streams -/

/-- The resampler produces a frame exactly when its gate admits: the final entry of its window (in the table, or the one the end-of-capture
close displaced, log 31), a settled index above I + 16, room in every
restored stream, and I + 16 < w in ACTIVE or I < E in DRAINING; the frame then advances the read position by the applied step, stopping at
E in DRAINING (R101 to R104, R108, R110). Its flags come from the entry's lock, the classes of its 32 inputs and the loss mark (R114 to
R116). Each restored stream takes its slot (R109, R121); a full buffer is sealed into the queue or waits, and the frame that reaches E
gives each stream its end mark and final block (R102, R125, R126, R128; the streams' order is log 6, the reserved slots log 14). -/
def Obligations.ProduceFrameNeedsTheGate : Prop :=
  ∀ (s : State) (x : Side),
    let r := s.rsp.get x
    let i : Nat := r.position / 2 ^ 24
    let streams := s.psc.pass.streams
    let slots := 65536 / (s.psc.pass.sides.get x).window
    let window := i / (s.psc.pass.sides.get x).window
    let entry := (tableEntry (s.rtr.get x).table slots window).or
      ((s.rtr.get x).displaced.filter fun e => decide (e.window = window))
    let settled := i + 16 < (s.lvm.get x.left).settled ∧ i + 16 < (s.lvm.get x.right).settled
    let room := ∀ j, s.restores x j = true →
      (s.sas.get j).state = .filling ∧ (s.sas.get j).buffer.length < (streams.get j).framesPerBlock
    let ahead := (r.state = .active ∧ i + 16 < s.crg.w) ∨ (r.state = .draining ∧ i < s.crg.e.getD 0)
    (entry.bind (·.appliedStep) = none ∨ ¬settled ∨ ¬room ∨ ¬ahead → exec (.produceFrame x) s = .next s.testGates) ∧
    (∀ e a, entry = some e → e.appliedStep = some a → settled → room → ahead → ∃ t, exec (.produceFrame x) s = .next t ∧
      let position := if r.state = .draining ∧ s.crg.e.getD 0 < (r.position + a) / 2 ^ 24 then s.crg.e.getD 0 * 2 ^ 24
        else r.position + a
      let ends := decide (r.state = .draining ∧ s.crg.e.getD 0 ≤ position / 2 ^ 24)
      let base := (t.rsp.get x).baseSkew
      let iR := ((r.position : Int) + max (-128) (min 127 (base + e.trim)) * 2 ^ 20) / 2 ^ 24
      let read := ((List.finRange 16).map fun k => (s.liftAt x.left ((i : Int) - 7 + k.val)).2) ++
        (List.finRange 16).map fun k => (s.liftAt x.right (iR - 7 + k.val)).2
      let f := State.frameOf { s with rsp := s.rsp.set x { r with baseSkew := base } } x e
      let restored := streamList.filter (s.restores x)
      let taken : Fin 8 → Stream := fun j =>
        let st := s.sas.get j
        let slot := match (streams.get j).source with
          | .side _ l rr => frameSlot (streams.get j).format l rr f.left f.right
          | .raw _ => []
        { st with
          buffer := st.buffer ++ [slot], first := if st.buffer = [] then i else st.first, last := i, flags := st.flags.union f.flags }
      let full := fun j => decide ((s.sas.get j).buffer.length + 1 = (streams.get j).framesPerBlock)
      let used := s.oq.blocks.length + s.waiting.length
      let free := fun j => decide (used + (restored.filter fun k => decide (k < j) && full k).length < 64)
      let given := fun j => if full j then (if free j then (taken j).emptied .filling else { taken j with state := .waiting })
        else taken j
      let goesOn := fun j => !(full j && !free j)
      let marked := used + (restored.filter full).length
      let last := fun j => goesOn j && decide (marked + (restored.filter fun k => decide (k < j) && goesOn k).length < 64)
      let blocks := (restored.filter fun j => full j && free j).map fun j => (j, taken j, false)
      let finals := if ends then (restored.filter last).map fun j => (j, given j, true) else []
      t.rsp.get x = { r with
        position := position, frames := r.frames + 1, passed := some i, loss := false, baseSkew := base
        state := if ends then .finished else r.state, wait := (t.rsp.get x).wait } ∧
      ((∀ c ∈ s.psc.cues, skewDue x i c = false) → base = r.baseSkew ∧ t.psc = s.psc) ∧
      f.flags = ⟨decide (e.lock ≠ .locked ∧ e.lock ≠ .hold), decide (e.lock = .hold), decide (TickClass.lifted ∈ read),
        decide (TickClass.limited ∈ read), r.loss⟩ ∧
      (∀ j, s.restores x j = true → t.sas.get j =
        if !ends then given j else if last j then (given j).emptied .done else { given j with state := .finalWait }) ∧
      (∃ bs, t.oq = { s.oq with blocks := s.oq.blocks ++ bs } ∧ carriedAs streams (s.crg.e.getD 0) bs (blocks ++ finals)) ∧
      (∀ j, s.restores x j = false → t.sas.get j = s.sas.get j) ∧
      t.crg = { s.crg with sideLost := s.crg.sideLost.set x false } ∧ t.rtr = s.rtr ∧ t.lvm = s.lvm ∧ t.cfe = s.cfe ∧
      t.sns = s.sns ∧ t.link = s.link ∧ t.pending = s.pending ∧ t.clock = s.clock)

/-- While the gate fails for ENTRY, SETTLE or ROOM, the first of these is the wait cause (R103); the wait cause changes nothing else. An
entry that the end-of-capture close displaced from the table still serves its window (R101, R102; log 31). -/
def Obligations.WaitCauseNamesTheFirstFailure : Prop :=
  ∀ (s : State) (x : Side),
    let r := s.rsp.get x
    let i : Nat := r.position / 2 ^ 24
    let w := (s.psc.pass.sides.get x).window
    let entry := ((tableEntry (s.rtr.get x).table (65536 / w) (i / w)).or
      ((s.rtr.get x).displaced.filter fun e => decide (e.window = i / w))).bind (·.appliedStep)
    let settled := min (s.lvm.get x.left).settled (s.lvm.get x.right).settled
    let room := ∀ j, s.restores x j = true →
      (s.sas.get j).state = .filling ∧ (s.sas.get j).buffer.length < (s.psc.pass.streams.get j).framesPerBlock
    (s.testGates.rsp.get x) = { r with wait := (s.testGates.rsp.get x).wait } ∧
    s.testGates = { s with rsp := s.testGates.rsp } ∧
    (r.state = .off ∨ r.state = .finished → (s.testGates.rsp.get x).wait = .none) ∧
    (r.state = .active ∨ r.state = .draining →
      (entry = none → (s.testGates.rsp.get x).wait = .entry) ∧
      (entry ≠ none → settled ≤ i + 16 → (s.testGates.rsp.get x).wait = .settle) ∧
      (entry ≠ none → i + 16 < settled → ¬room → (s.testGates.rsp.get x).wait = .room) ∧
      (entry ≠ none → i + 16 < settled → room → (s.testGates.rsp.get x).wait = .none))

/-- Whatever coefficients stand in the part, a constant input gives itself in every class and phase, class A at phase 0 passes the input at
I, every value lies in 24 bits, and the phase is the fraction over 2^18 (R105, R106). -/
def Obligations.InterpolationIsExactOnConstants : Prop :=
  ∀ (c : CoefficientClass) (phase : Fin 64),
    (∀ y : Int, -8388608 ≤ y → y ≤ 8388607 → interpolate c phase (fun _ => y) = y) ∧
    (∀ inputs : Fin 16 → Int, -8388608 ≤ inputs 7 → inputs 7 ≤ 8388607 → interpolate .A 0 inputs = inputs 7) ∧
    (∀ inputs : Fin 16 → Int, -8388608 ≤ interpolate c phase inputs ∧ interpolate c phase inputs ≤ 8388607) ∧
    (∀ f, f < 2 ^ 24 → (phaseOf f).val = f / 2 ^ 18) ∧
    ((taps.map (coefficient c phase)).sum = 131072 ∧ ∀ k, -131072 ≤ coefficient c phase k ∧ coefficient c phase k ≤ 131072)

/-- A raw stream in FILLING whose next index r is below w takes the group at r: its slot joins the buffer, the loss mark joins the flags,
r rises by one; a block then full enters the queue, or the stream waits when no slot is free for it (R122, R120, R128). The take that
raises r to E is the last: the stream gives itself its end mark, and its final block, whole, partial or empty, enters the queue or waits
in FINAL_WAIT (R123, R126). The slot reserved for waiting streams is log 14, that nothing happens where there is no group is log 8. -/
def Obligations.TakeSampleGroupReadsTheRing : Prop :=
  ∀ (s : State) (i : Fin 8),
    let d := s.psc.pass.streams.get i
    let st := s.sas.get i
    (d.enabled = false ∨ (∃ x l r, d.source = .side x l r) ∨ st.state ≠ .filling ∨ s.crg.w ≤ st.r →
      exec (.takeSampleGroup i) s = .next s) ∧
    ∀ ts, d.enabled = true → d.source = .raw ts → st.state = .filling → st.r < s.crg.w →
      let buffer := st.buffer ++ [(trackList ts).flatMap fun k => d.format.bytes (s.crg.read k st.r)]
      let flags := { st.flags with lost := st.flags.lost || st.loss }
      let first := if st.buffer = [] then st.r else st.first
      ∃ t, exec (.takeSampleGroup i) s = .next t ∧ (t.sas.get i).r = st.r + 1 ∧ (t.sas.get i).loss = false ∧
        t.crg = { s.crg with streamLost := s.crg.streamLost.set i false } ∧ (∀ j, j ≠ i → t.sas.get j = s.sas.get j) ∧
        t.rtr = s.rtr ∧ t.lvm = s.lvm ∧ t.cfe = s.cfe ∧ t.sns = s.sns ∧ t.psc = s.psc ∧ t.link = s.link ∧
        t.pending = s.pending ∧ t.clock = s.clock ∧
        (s.crg.e ≠ some (st.r + 1) →
          (buffer.length ≠ d.framesPerBlock → t.oq = s.oq ∧
            t.sas.get i = { st with buffer := buffer, first := first, last := st.r, flags := flags, r := st.r + 1, loss := false }) ∧
          (buffer.length = d.framesPerBlock → s.oq.blocks.length + s.waiting.length < 64 → 
            ∃ b, t.oq = { s.oq with blocks := s.oq.blocks ++ [b] } ∧ b.stream = i ∧
            b.data = buffer.flatten ∧ b.frames = d.framesPerBlock ∧ b.emit = st.emit ∧ b.first = first ∧ b.last = st.r ∧
            b.flags = flags ∧ b.finalFlag = false ∧ b.crc = b.check ∧ (t.sas.get i).state = .filling ∧
            (t.sas.get i).buffer = [] ∧ (t.sas.get i).emit = st.emit + 1 ∧ (t.sas.get i).flags = .empty) ∧
          (buffer.length = d.framesPerBlock → 64 ≤ s.oq.blocks.length + s.waiting.length → t.oq = s.oq ∧
            t.sas.get i =
              { st with
                state := .waiting, buffer := buffer, first := first, last := st.r, flags := flags, r := st.r + 1, loss := false })) ∧
        (s.crg.e = some (st.r + 1) →
          let taken : Stream :=
            { st with buffer := buffer, first := first, last := st.r, flags := flags, r := st.r + 1, loss := false }
          let used := s.oq.blocks.length + s.waiting.length
          let whole := decide (buffer.length = d.framesPerBlock)
          let rest := if whole && decide (used < 64) then taken.emptied .filling else taken
          let sealed := (if whole && decide (used < 64) then [(i, taken, false)] else []) ++
            if (if whole then used + 1 < 64 else used < 64) then [(i, rest, true)] else []
          (∃ bs, t.oq = { s.oq with blocks := s.oq.blocks ++ bs } ∧ carriedAs s.psc.pass.streams (st.r + 1) bs sealed) ∧
          t.sas.get i = if (if whole then used + 1 < 64 else used < 64) then rest.emptied .done
            else { rest with state := .finalWait })

/-- SLOT_GRANT gives a freed slot to the stream it was granted to when it was freed, whichever streams have begun to wait since, and where
nothing is granted to the lowest-numbered waiting stream (log 14). That stream's block is sealed at the tail with its header, its slots in
the order of its source, and its CRC; the stream becomes FILLING, or DONE after its final block (R111, R112, R125 to R128). That SLOT_GRANT
with no stream waiting or no slot free only tests the gates is the model's choice (log 8). -/
def Obligations.SlotGrantSealsTheLowestWaiting : Prop :=
  ∀ s : State,
    ((∀ i, (s.sas.get i).state ≠ .waiting ∧ (s.sas.get i).state ≠ .finalWait) ∨ 64 ≤ s.oq.blocks.length →
      exec .slotGrant s = .next s.testGates) ∧
    ∀ i : Fin 8, (s.sas.get i).state = .waiting ∨ (s.sas.get i).state = .finalWait →
      s.oq.granted.head? = some i ∨ (s.oq.granted = [] ∧
        ∀ j, j < i → (s.sas.get j).state ≠ .waiting ∧ (s.sas.get j).state ≠ .finalWait) → s.oq.blocks.length < 64 →
      let d := s.psc.pass.streams.get i
      let st := s.sas.get i
      let final := decide (st.state = .finalWait)
      let sideB := d.source.code = 1
      ∃ b : Block, exec .slotGrant s = .next (State.testGates { s with
          oq := ⟨s.oq.blocks ++ [b], s.oq.granted.tail⟩
          sas := s.sas.set i { st with
            state := if final then .done else .filling, buffer := [], emit := st.emit + 1, first := 0, last := 0
            flags := .empty } }) ∧
        b.stream = i ∧ b.source = d.source ∧ b.format = d.format ∧ b.flags = st.flags ∧ b.finalFlag = final ∧
        b.partialFlag = (final && decide (st.buffer.length < d.framesPerBlock)) ∧ b.reversed = decide sideB ∧
        b.frames = st.buffer.length ∧ b.emit = st.emit ∧ b.order = (if sideB then -(st.emit : Int) else st.emit) ∧
        b.first = (if st.buffer = [] then s.crg.e.getD 0 else st.first) ∧
        b.last = (if st.buffer = [] then s.crg.e.getD 0 else st.last) ∧
        b.data = (if sideB then st.buffer.reverse.flatten else st.buffer.flatten) ∧
        b.crc = crc16 (b.headFields ++ [0, 0, 0] ++ b.data)

/-- Every sample is sent in two's complement, most significant byte first: S16 rounded half up and saturated, S24 as it stands, S32 with
its low byte 0 (R124). -/
def Obligations.SampleFormatsFollowTheTable : Prop :=
  ∀ y : Int, -8388608 ≤ y → y ≤ 8388607 →
    (SampleFormat.s16.value y = min 32767 ((y + 128) / 256) ∧ -32768 ≤ SampleFormat.s16.value y ∧
      (SampleFormat.s16.bytes y).length = 2 ∧
      (natOfBytes (SampleFormat.s16.bytes y) : Int) = min 32767 ((y + 128) / 256) % 2 ^ 16) ∧
    (SampleFormat.s24.value y = y ∧ (SampleFormat.s24.bytes y).length = 3 ∧
      (natOfBytes (SampleFormat.s24.bytes y) : Int) = y % 2 ^ 24) ∧
    (SampleFormat.s32.value y = y * 256 ∧ -2147483648 ≤ y * 256 ∧ y * 256 ≤ 2147483392 ∧
      (SampleFormat.s32.bytes y).length = 4 ∧ (natOfBytes (SampleFormat.s32.bytes y) : Int) = y * 256 % 2 ^ 32 ∧
      (SampleFormat.s32.bytes y).getLast? = some 0) ∧
    ∀ (f : SampleFormat) (l r : Int), frameSlot f true true l r = f.bytes l ++ f.bytes r ∧
      frameSlot f true false l r = f.bytes l ∧ frameSlot f false true l r = f.bytes r

/-! ### Sense lines -/

/-- An accepted change moves the debounced level and clears the count. A change that matches the line's edge trips an ARMED sticky flag,
with a LINE notice if the line's notice is on, and then runs the line's action where the pass state admits it (R134 to R138). The setting
is the pass copy: a stored one takes effect at the next ARM or RESTART (R169, R174). That the trip's notice comes before the action's is
the model's choice (log 6), and that a change commanded while RESET is held is not accepted is log 8's reading of R175. -/
def Obligations.LineChangeRunsTheAction : Prop :=
  ∀ (s : State) (i : Fin 6),
    (s.clock.lineReset = true → exec (.lineChangeAccepted i) s = .next s) ∧
    (s.clock.lineReset = false →
      let g := s.psc.pass.lines.get i
      let l := s.sns.lines.get i
      let high := !l.level
      let moved := fun f : Sticky => { s with sns := { s.sns with lines := s.sns.lines.set i ⟨high, 0, f⟩ } }
      let quiet := (g.edge = .rise ∧ high = false) ∨ (g.edge = .fall ∧ high = true)
      (quiet → exec (.lineChangeAccepted i) s = .next (moved l.sticky)) ∧
      (¬quiet →
        let t : State :=
          if l.sticky = .armed then
            { moved .tripped with notices := if g.notice then s.notices.push ⟨.line i high, s.crg.w⟩ else s.notices }
          else moved l.sticky
        exec (.lineChangeAccepted i) s = .next (
          match g.action, s.psc.state with
          | .start, .armed => t.startRequest
          | .stop, .armed => t.returnToIdle
          | .stop, .running => t.endCapture .endLine
          | .mark, .running => t.markEvent
          | .splice, .running => t.spliceEvent
          | .tacho, .running => t.tachoEvent i
          | _, _ => t)))

/-- While no stall is declared, a TACHO line event becomes the reference or ends a period, reloads the stall timer, and counts every
pending splice down, producing those that reach 0 (R140, R142, R145); in a stall it ends the stall (R143). A SPLICE line event is handled
by the first case of R144's table. A period is recorded from 1 (log 19). -/
def Obligations.TachoAndSpliceEvents : Prop :=
  ∀ (s : State) (i : Fin 6),
    let u := s.sns
    let timer := s.psc.pass.stallTimer
    (u.stalled = true → s.tachoEvent i =
      { s with
        sns := { u with stalled := false, reference := true, tacho := 0, timer := timer }
        notices := s.notices.push ⟨.stall false i, s.crg.w⟩ }) ∧
    (u.stalled = false → s.tachoEvent i =
      State.produceSplices
        { s with sns := { u with
            reference := true, tacho := 0, timer := timer
            tLast := if u.reference then some (max 1 u.tacho) else u.tLast, fresh := u.reference || u.fresh
            splices := (u.splices.filter (1 < ·)).map (· - 1) } }
        false (u.splices.filter (· ≤ 1)).length) ∧
    (s.psc.pass.pass.spliceLead = 0 ∨ (∀ j, (s.psc.pass.lines.get j).action ≠ .tacho) →
      s.spliceEvent = s.produceSplice false) ∧
    (s.psc.pass.pass.spliceLead ≠ 0 → (∃ j, (s.psc.pass.lines.get j).action = .tacho) →
      (u.stalled = true ∨ 8 ≤ u.splices.length → s.spliceEvent = s.produceSplice true) ∧
      (u.stalled = false → u.splices.length < 8 → s.spliceEvent =
        { s with sns := { u with splices := u.splices ++ [s.psc.pass.pass.spliceLead] } })) ∧
    ∀ untimed, s.produceSplice untimed =
      s.report (.span ⟨.splice, s.cfe.watched, s.crg.w, s.psc.pass.pass.spliceGuard, none, none, none, untimed, none⟩)

/-- The expiry of the stall timer declares a stall: the timer stops, fresh flag and reference are cleared, the pending splices are
produced untimed, a STALL notice is queued, and with stop-on-stall capture then ends with cause STALL (R142, R152); elsewhere it has no
effect (log 8). -/
def Obligations.StallExpiryDeclaresAStall : Prop :=
  ∀ s : State,
    let stall := fun u : SenseUnit =>
      { u with stalled := true, timer := none, fresh := false, reference := false, splices := ([] : List Nat) }
    (s.psc.state ≠ .running ∨ s.sns.timer = none ∨ s.sns.stalled = true → exec .stallExpiry s = .next s) ∧
    (s.psc.state = .running → s.sns.timer ≠ none → s.sns.stalled = false → ∀ i, s.psc.pass.tachoLine = some i →
      let flushed := State.produceSplices { s with sns := stall s.sns } true s.sns.splices.length
      let told := { flushed with notices := flushed.notices.push ⟨.stall true i, s.crg.w⟩ }
      (s.psc.pass.pass.stopOnStall = false → exec .stallExpiry s = .next told ∧ told.sns = stall s.sns ∧
        told.psc = s.psc ∧ told.crg = s.crg ∧ told.cfe = s.cfe) ∧
      (s.psc.pass.pass.stopOnStall = true → ∃ t, exec .stallExpiry s = .next t ∧ t = told.endCapture .stall ∧
        t.psc = { s.psc with state := .draining, cause := some .stall } ∧ t.crg.e = some s.crg.w ∧
        t.cfe.converter = .stopped ∧ t.sns.stalled = true ∧ t.sns.timer = none ∧ t.sns.splices = [] ∧
        t.sns.fresh = false ∧ t.sns.reference = false ∧ t.sns.lines = s.sns.lines))

/-- A new level held for D samples leaves the debounced level and counts to D; a return to the old level cancels the count; the sample
D + 1 is the accepted change (R134). D is the debounce of the pass copy, since a stored one takes effect at the next ARM or RESTART (R169,
R174); a count that starts above 0 is left out here, where log 10 makes a choice. -/
def Obligations.DebounceDelaysAChange : Prop :=
  ∀ (s : State) (i : Fin 6) (n : Nat),
    let l := s.sns.lines.get i
    let d := (s.psc.pass.lines.get i).debounce
    let counted := fun m : Nat => { s with sns := { s.sns with lines := s.sns.lines.set i { l with count := m } } }
    l.count = 0 →
    (n ≤ d → s.sampleLines i (List.replicate n (!l.level)) = counted n ∧
      s.sampleLines i (List.replicate n (!l.level) ++ [l.level]) = counted 0) ∧
    s.sampleLines i (List.replicate (d + 1) (!l.level)) = s.acceptChange i

/-! ### Notices and attention -/

/-- A notice joins the tail of the queue, or is discarded and counted when 32 are held; ATTN is asserted while a notice waits and notice
attention is on, or while the output queue is at the high-water setting, and not while RESET is held (R172, R173, R175). -/
def Obligations.NoticesAndAttention : Prop :=
  (∀ (q : NoticeQueue) (n : Notice),
    (q.queue.length < 32 → q.push n = ⟨q.queue ++ [n], q.lost⟩) ∧
    (32 ≤ q.queue.length → q.lost ≤ 255 → q.push n = ⟨q.queue, min 255 (q.lost + 1)⟩)) ∧
  ∀ s : State, s.attn = true ↔ s.clock.lineReset = false ∧
    ((s.notices.queue ≠ [] ∧ s.psc.stored.pass.noticeAttention = true) ∨ s.psc.stored.pass.highWater ≤ s.oq.blocks.length)

/-! ### Invariants of the step -/

/-- Every step keeps the four capture rings in their canonical form. -/
def Obligations.StepKeepsTheRings : Prop :=
  ∀ s t : State, s.ringsOk = true → step s = .next t → t.ringsOk = true

/-- Every step keeps every queue and list within its capacity and every saturating count within its range (R75, R83, R128, R140, R144,
R146, R157, R172). -/
def Obligations.StepKeepsTheCapacities : Prop :=
  ∀ s t : State, s.capacityOk = true → step s = .next t → t.capacityOk = true

/-- Every step keeps the settings in their lists and ranges, the base skews and cue values in theirs, and the cue list in its order with no
two cues alike (R18, R43, R89, R118, R133, R157, R169). -/
def Obligations.StepKeepsSettingsAndCues : Prop :=
  ∀ s t : State, s.settingsOk = true → s.skewOk = true → cuesOrdered s.psc.cues → step s = .next t →
    t.settingsOk = true ∧ t.skewOk = true ∧ cuesOrdered t.psc.cues

/-- Every step keeps the pass state in agreement with the end cause, the start-pending flag, the cues, the converters, w and E (R1, R2, R5,
R7, R148, R162). -/
def Obligations.StepKeepsThePass : Prop :=
  ∀ s t : State, s.passOk = true → s.converterOk = true → step s = .next t → t.passOk = true ∧ t.converterOk = true

/-- Every step keeps the defect list in its order, with no two entries of one kind and key that overlap or abut (R75, R78). -/
def Obligations.StepKeepsDefectsInOrder : Prop :=
  ∀ s t : State, s.dfl.inOrder → step s = .next t → t.dfl.inOrder

/-- The state after reset has every agreement the steps keep (R17, R88, R98, R131, R147, R162, R170, R175). -/
def Obligations.ResetIsSafe : Prop :=
  State.reset.safe
end

