-- ==== Sys2Proof/Laws/Containers.lean ====
section
/-! SUPPORT. Reading and writing one value of a container with one value for each side, track, stream or line. -/

namespace Sys2Proof

@[simp] theorem PerSide.get_set_self {α : Type} (v : PerSide α) (i : Side) (x : α) : (v.set i x).get i = x := by cases i <;> rfl

@[simp] theorem PerSide.get_set_of_ne {α : Type} (v : PerSide α) {i j : Side} (x : α) (h : j ≠ i) : (v.set i x).get j = v.get j := by cases i <;> cases j <;> first | rfl | exact absurd rfl h

@[simp] theorem PerSide.get_all {α : Type} (x : α) (i : Side) : (PerSide.all x).get i = x := by cases i <;> rfl

@[simp] theorem PerSide.get_map {α β : Type} (f : α → β) (v : PerSide α) (i : Side) : (v.map f).get i = f (v.get i) := by cases i <;> rfl

@[simp] theorem PerSide.get_mapIdx {α β : Type} (f : Side → α → β) (v : PerSide α) (i : Side) : (v.mapIdx f).get i = f i (v.get i) := by cases i <;> rfl

@[simp] theorem PerSide.set_get {α : Type} (v : PerSide α) (i : Side) : v.set i (v.get i) = v := by cases i <;> rfl

@[simp] theorem PerTrack.get_set_self {α : Type} (v : PerTrack α) (i : Track) (x : α) : (v.set i x).get i = x := by cases i <;> rfl

@[simp] theorem PerTrack.get_set_of_ne {α : Type} (v : PerTrack α) {i j : Track} (x : α) (h : j ≠ i) : (v.set i x).get j = v.get j := by cases i <;> cases j <;> first | rfl | exact absurd rfl h

@[simp] theorem PerTrack.get_all {α : Type} (x : α) (i : Track) : (PerTrack.all x).get i = x := by cases i <;> rfl

@[simp] theorem PerTrack.get_map {α β : Type} (f : α → β) (v : PerTrack α) (i : Track) : (v.map f).get i = f (v.get i) := by cases i <;> rfl

@[simp] theorem PerTrack.get_mapIdx {α β : Type} (f : Track → α → β) (v : PerTrack α) (i : Track) : (v.mapIdx f).get i = f i (v.get i) := by cases i <;> rfl

@[simp] theorem PerTrack.set_get {α : Type} (v : PerTrack α) (i : Track) : v.set i (v.get i) = v := by cases i <;> rfl

@[simp] theorem PerStream.get_set_self {α : Type} (v : PerStream α) (i : Fin 8) (x : α) : (v.set i x).get i = x := by match i with
  | 0 => rfl
  | 1 => rfl
  | 2 => rfl
  | 3 => rfl
  | 4 => rfl
  | 5 => rfl
  | 6 => rfl
  | 7 => rfl

@[simp] theorem PerStream.get_set_of_ne {α : Type} (v : PerStream α) {i j : Fin 8} (x : α) (h : j ≠ i) : (v.set i x).get j = v.get j := by
  revert h
  match i with
  | 0 => match j with
    | 0 => intro h; first | rfl | exact absurd rfl h
    | 1 => intro h; first | rfl | exact absurd rfl h
    | 2 => intro h; first | rfl | exact absurd rfl h
    | 3 => intro h; first | rfl | exact absurd rfl h
    | 4 => intro h; first | rfl | exact absurd rfl h
    | 5 => intro h; first | rfl | exact absurd rfl h
    | 6 => intro h; first | rfl | exact absurd rfl h
    | 7 => intro h; first | rfl | exact absurd rfl h
  | 1 => match j with
    | 0 => intro h; first | rfl | exact absurd rfl h
    | 1 => intro h; first | rfl | exact absurd rfl h
    | 2 => intro h; first | rfl | exact absurd rfl h
    | 3 => intro h; first | rfl | exact absurd rfl h
    | 4 => intro h; first | rfl | exact absurd rfl h
    | 5 => intro h; first | rfl | exact absurd rfl h
    | 6 => intro h; first | rfl | exact absurd rfl h
    | 7 => intro h; first | rfl | exact absurd rfl h
  | 2 => match j with
    | 0 => intro h; first | rfl | exact absurd rfl h
    | 1 => intro h; first | rfl | exact absurd rfl h
    | 2 => intro h; first | rfl | exact absurd rfl h
    | 3 => intro h; first | rfl | exact absurd rfl h
    | 4 => intro h; first | rfl | exact absurd rfl h
    | 5 => intro h; first | rfl | exact absurd rfl h
    | 6 => intro h; first | rfl | exact absurd rfl h
    | 7 => intro h; first | rfl | exact absurd rfl h
  | 3 => match j with
    | 0 => intro h; first | rfl | exact absurd rfl h
    | 1 => intro h; first | rfl | exact absurd rfl h
    | 2 => intro h; first | rfl | exact absurd rfl h
    | 3 => intro h; first | rfl | exact absurd rfl h
    | 4 => intro h; first | rfl | exact absurd rfl h
    | 5 => intro h; first | rfl | exact absurd rfl h
    | 6 => intro h; first | rfl | exact absurd rfl h
    | 7 => intro h; first | rfl | exact absurd rfl h
  | 4 => match j with
    | 0 => intro h; first | rfl | exact absurd rfl h
    | 1 => intro h; first | rfl | exact absurd rfl h
    | 2 => intro h; first | rfl | exact absurd rfl h
    | 3 => intro h; first | rfl | exact absurd rfl h
    | 4 => intro h; first | rfl | exact absurd rfl h
    | 5 => intro h; first | rfl | exact absurd rfl h
    | 6 => intro h; first | rfl | exact absurd rfl h
    | 7 => intro h; first | rfl | exact absurd rfl h
  | 5 => match j with
    | 0 => intro h; first | rfl | exact absurd rfl h
    | 1 => intro h; first | rfl | exact absurd rfl h
    | 2 => intro h; first | rfl | exact absurd rfl h
    | 3 => intro h; first | rfl | exact absurd rfl h
    | 4 => intro h; first | rfl | exact absurd rfl h
    | 5 => intro h; first | rfl | exact absurd rfl h
    | 6 => intro h; first | rfl | exact absurd rfl h
    | 7 => intro h; first | rfl | exact absurd rfl h
  | 6 => match j with
    | 0 => intro h; first | rfl | exact absurd rfl h
    | 1 => intro h; first | rfl | exact absurd rfl h
    | 2 => intro h; first | rfl | exact absurd rfl h
    | 3 => intro h; first | rfl | exact absurd rfl h
    | 4 => intro h; first | rfl | exact absurd rfl h
    | 5 => intro h; first | rfl | exact absurd rfl h
    | 6 => intro h; first | rfl | exact absurd rfl h
    | 7 => intro h; first | rfl | exact absurd rfl h
  | 7 => match j with
    | 0 => intro h; first | rfl | exact absurd rfl h
    | 1 => intro h; first | rfl | exact absurd rfl h
    | 2 => intro h; first | rfl | exact absurd rfl h
    | 3 => intro h; first | rfl | exact absurd rfl h
    | 4 => intro h; first | rfl | exact absurd rfl h
    | 5 => intro h; first | rfl | exact absurd rfl h
    | 6 => intro h; first | rfl | exact absurd rfl h
    | 7 => intro h; first | rfl | exact absurd rfl h

@[simp] theorem PerStream.get_all {α : Type} (x : α) (i : Fin 8) : (PerStream.all x).get i = x := by match i with
  | 0 => rfl
  | 1 => rfl
  | 2 => rfl
  | 3 => rfl
  | 4 => rfl
  | 5 => rfl
  | 6 => rfl
  | 7 => rfl

@[simp] theorem PerStream.get_map {α β : Type} (f : α → β) (v : PerStream α) (i : Fin 8) : (v.map f).get i = f (v.get i) := by match i with
  | 0 => rfl
  | 1 => rfl
  | 2 => rfl
  | 3 => rfl
  | 4 => rfl
  | 5 => rfl
  | 6 => rfl
  | 7 => rfl

@[simp] theorem PerStream.get_mapIdx {α β : Type} (f : Fin 8 → α → β) (v : PerStream α) (i : Fin 8) : (v.mapIdx f).get i = f i (v.get i) := by match i with
  | 0 => rfl
  | 1 => rfl
  | 2 => rfl
  | 3 => rfl
  | 4 => rfl
  | 5 => rfl
  | 6 => rfl
  | 7 => rfl

@[simp] theorem PerStream.set_get {α : Type} (v : PerStream α) (i : Fin 8) : v.set i (v.get i) = v := by match i with
  | 0 => rfl
  | 1 => rfl
  | 2 => rfl
  | 3 => rfl
  | 4 => rfl
  | 5 => rfl
  | 6 => rfl
  | 7 => rfl

@[simp] theorem PerLine.get_set_self {α : Type} (v : PerLine α) (i : Fin 6) (x : α) : (v.set i x).get i = x := by match i with
  | 0 => rfl
  | 1 => rfl
  | 2 => rfl
  | 3 => rfl
  | 4 => rfl
  | 5 => rfl

@[simp] theorem PerLine.get_set_of_ne {α : Type} (v : PerLine α) {i j : Fin 6} (x : α) (h : j ≠ i) : (v.set i x).get j = v.get j := by
  revert h
  match i with
  | 0 => match j with
    | 0 => intro h; first | rfl | exact absurd rfl h
    | 1 => intro h; first | rfl | exact absurd rfl h
    | 2 => intro h; first | rfl | exact absurd rfl h
    | 3 => intro h; first | rfl | exact absurd rfl h
    | 4 => intro h; first | rfl | exact absurd rfl h
    | 5 => intro h; first | rfl | exact absurd rfl h
  | 1 => match j with
    | 0 => intro h; first | rfl | exact absurd rfl h
    | 1 => intro h; first | rfl | exact absurd rfl h
    | 2 => intro h; first | rfl | exact absurd rfl h
    | 3 => intro h; first | rfl | exact absurd rfl h
    | 4 => intro h; first | rfl | exact absurd rfl h
    | 5 => intro h; first | rfl | exact absurd rfl h
  | 2 => match j with
    | 0 => intro h; first | rfl | exact absurd rfl h
    | 1 => intro h; first | rfl | exact absurd rfl h
    | 2 => intro h; first | rfl | exact absurd rfl h
    | 3 => intro h; first | rfl | exact absurd rfl h
    | 4 => intro h; first | rfl | exact absurd rfl h
    | 5 => intro h; first | rfl | exact absurd rfl h
  | 3 => match j with
    | 0 => intro h; first | rfl | exact absurd rfl h
    | 1 => intro h; first | rfl | exact absurd rfl h
    | 2 => intro h; first | rfl | exact absurd rfl h
    | 3 => intro h; first | rfl | exact absurd rfl h
    | 4 => intro h; first | rfl | exact absurd rfl h
    | 5 => intro h; first | rfl | exact absurd rfl h
  | 4 => match j with
    | 0 => intro h; first | rfl | exact absurd rfl h
    | 1 => intro h; first | rfl | exact absurd rfl h
    | 2 => intro h; first | rfl | exact absurd rfl h
    | 3 => intro h; first | rfl | exact absurd rfl h
    | 4 => intro h; first | rfl | exact absurd rfl h
    | 5 => intro h; first | rfl | exact absurd rfl h
  | 5 => match j with
    | 0 => intro h; first | rfl | exact absurd rfl h
    | 1 => intro h; first | rfl | exact absurd rfl h
    | 2 => intro h; first | rfl | exact absurd rfl h
    | 3 => intro h; first | rfl | exact absurd rfl h
    | 4 => intro h; first | rfl | exact absurd rfl h
    | 5 => intro h; first | rfl | exact absurd rfl h

@[simp] theorem PerLine.get_all {α : Type} (x : α) (i : Fin 6) : (PerLine.all x).get i = x := by match i with
  | 0 => rfl
  | 1 => rfl
  | 2 => rfl
  | 3 => rfl
  | 4 => rfl
  | 5 => rfl

@[simp] theorem PerLine.get_map {α β : Type} (f : α → β) (v : PerLine α) (i : Fin 6) : (v.map f).get i = f (v.get i) := by match i with
  | 0 => rfl
  | 1 => rfl
  | 2 => rfl
  | 3 => rfl
  | 4 => rfl
  | 5 => rfl

@[simp] theorem PerLine.get_mapIdx {α β : Type} (f : Fin 6 → α → β) (v : PerLine α) (i : Fin 6) : (v.mapIdx f).get i = f i (v.get i) := by match i with
  | 0 => rfl
  | 1 => rfl
  | 2 => rfl
  | 3 => rfl
  | 4 => rfl
  | 5 => rfl

@[simp] theorem PerLine.set_get {α : Type} (v : PerLine α) (i : Fin 6) : v.set i (v.get i) = v := by match i with
  | 0 => rfl
  | 1 => rfl
  | 2 => rfl
  | 3 => rfl
  | 4 => rfl
  | 5 => rfl

end Sys2Proof
end

