-- ==== Sys2Proof/Laws/State.lean ====
section
/-! SUPPORT. One lemma per field per update of the state: what a named update leaves as it was, and what it sets. -/

namespace Sys2Proof.Machine

variable (s : State)

@[simp] theorem State.notify_pending (b : NoticeBody) (n : Nat) : (s.notify b n).pending = s.pending := rfl
@[simp] theorem State.notify_clock (b : NoticeBody) (n : Nat) : (s.notify b n).clock = s.clock := rfl
@[simp] theorem State.notify_cfe (b : NoticeBody) (n : Nat) : (s.notify b n).cfe = s.cfe := rfl
@[simp] theorem State.notify_crg (b : NoticeBody) (n : Nat) : (s.notify b n).crg = s.crg := rfl
@[simp] theorem State.notify_rtr (b : NoticeBody) (n : Nat) : (s.notify b n).rtr = s.rtr := rfl
@[simp] theorem State.notify_lvm (b : NoticeBody) (n : Nat) : (s.notify b n).lvm = s.lvm := rfl
@[simp] theorem State.notify_dfl (b : NoticeBody) (n : Nat) : (s.notify b n).dfl = s.dfl := rfl
@[simp] theorem State.notify_rsp (b : NoticeBody) (n : Nat) : (s.notify b n).rsp = s.rsp := rfl
@[simp] theorem State.notify_sas (b : NoticeBody) (n : Nat) : (s.notify b n).sas = s.sas := rfl
@[simp] theorem State.notify_oq (b : NoticeBody) (n : Nat) : (s.notify b n).oq = s.oq := rfl
@[simp] theorem State.notify_sns (b : NoticeBody) (n : Nat) : (s.notify b n).sns = s.sns := rfl
@[simp] theorem State.notify_psc (b : NoticeBody) (n : Nat) : (s.notify b n).psc = s.psc := rfl
@[simp] theorem State.notify_link (b : NoticeBody) (n : Nat) : (s.notify b n).link = s.link := rfl

@[simp] theorem State.putTracker_pending (x : Side) (t : Tracker) : (s.putTracker x t).pending = s.pending := rfl
@[simp] theorem State.putTracker_clock (x : Side) (t : Tracker) : (s.putTracker x t).clock = s.clock := rfl
@[simp] theorem State.putTracker_cfe (x : Side) (t : Tracker) : (s.putTracker x t).cfe = s.cfe := rfl
@[simp] theorem State.putTracker_crg (x : Side) (t : Tracker) : (s.putTracker x t).crg = s.crg := rfl
@[simp] theorem State.putTracker_lvm (x : Side) (t : Tracker) : (s.putTracker x t).lvm = s.lvm := rfl
@[simp] theorem State.putTracker_dfl (x : Side) (t : Tracker) : (s.putTracker x t).dfl = s.dfl := rfl
@[simp] theorem State.putTracker_rsp (x : Side) (t : Tracker) : (s.putTracker x t).rsp = s.rsp := rfl
@[simp] theorem State.putTracker_sas (x : Side) (t : Tracker) : (s.putTracker x t).sas = s.sas := rfl
@[simp] theorem State.putTracker_oq (x : Side) (t : Tracker) : (s.putTracker x t).oq = s.oq := rfl
@[simp] theorem State.putTracker_sns (x : Side) (t : Tracker) : (s.putTracker x t).sns = s.sns := rfl
@[simp] theorem State.putTracker_psc (x : Side) (t : Tracker) : (s.putTracker x t).psc = s.psc := rfl
@[simp] theorem State.putTracker_link (x : Side) (t : Tracker) : (s.putTracker x t).link = s.link := rfl
@[simp] theorem State.putTracker_notices (x : Side) (t : Tracker) : (s.putTracker x t).notices = s.notices := rfl

@[simp] theorem State.store_pending (g : Settings) : (s.store g).pending = s.pending := rfl
@[simp] theorem State.store_clock (g : Settings) : (s.store g).clock = s.clock := rfl
@[simp] theorem State.store_cfe (g : Settings) : (s.store g).cfe = s.cfe := rfl
@[simp] theorem State.store_crg (g : Settings) : (s.store g).crg = s.crg := rfl
@[simp] theorem State.store_rtr (g : Settings) : (s.store g).rtr = s.rtr := rfl
@[simp] theorem State.store_lvm (g : Settings) : (s.store g).lvm = s.lvm := rfl
@[simp] theorem State.store_dfl (g : Settings) : (s.store g).dfl = s.dfl := rfl
@[simp] theorem State.store_rsp (g : Settings) : (s.store g).rsp = s.rsp := rfl
@[simp] theorem State.store_sas (g : Settings) : (s.store g).sas = s.sas := rfl
@[simp] theorem State.store_oq (g : Settings) : (s.store g).oq = s.oq := rfl
@[simp] theorem State.store_sns (g : Settings) : (s.store g).sns = s.sns := rfl
@[simp] theorem State.store_link (g : Settings) : (s.store g).link = s.link := rfl
@[simp] theorem State.store_notices (g : Settings) : (s.store g).notices = s.notices := rfl

@[simp] theorem State.trail_pending  : (s.trail).pending = s.pending := rfl
@[simp] theorem State.trail_clock  : (s.trail).clock = s.clock := rfl
@[simp] theorem State.trail_cfe  : (s.trail).cfe = s.cfe := rfl
@[simp] theorem State.trail_crg  : (s.trail).crg = s.crg := rfl
@[simp] theorem State.trail_rtr  : (s.trail).rtr = s.rtr := rfl
@[simp] theorem State.trail_lvm  : (s.trail).lvm = s.lvm := rfl
@[simp] theorem State.trail_dfl  : (s.trail).dfl = s.dfl := rfl
@[simp] theorem State.trail_rsp  : (s.trail).rsp = s.rsp := rfl
@[simp] theorem State.trail_sas  : (s.trail).sas = s.sas := rfl
@[simp] theorem State.trail_oq  : (s.trail).oq = s.oq := rfl
@[simp] theorem State.trail_sns  : (s.trail).sns = s.sns := rfl
@[simp] theorem State.trail_psc  : (s.trail).psc = s.psc := rfl
@[simp] theorem State.trail_notices  : (s.trail).notices = s.notices := rfl

@[simp] theorem State.putSkew_pending (x : Side) (b : Int) : (s.putSkew x b).pending = s.pending := rfl
@[simp] theorem State.putSkew_clock (x : Side) (b : Int) : (s.putSkew x b).clock = s.clock := rfl
@[simp] theorem State.putSkew_cfe (x : Side) (b : Int) : (s.putSkew x b).cfe = s.cfe := rfl
@[simp] theorem State.putSkew_crg (x : Side) (b : Int) : (s.putSkew x b).crg = s.crg := rfl
@[simp] theorem State.putSkew_rtr (x : Side) (b : Int) : (s.putSkew x b).rtr = s.rtr := rfl
@[simp] theorem State.putSkew_lvm (x : Side) (b : Int) : (s.putSkew x b).lvm = s.lvm := rfl
@[simp] theorem State.putSkew_dfl (x : Side) (b : Int) : (s.putSkew x b).dfl = s.dfl := rfl
@[simp] theorem State.putSkew_sas (x : Side) (b : Int) : (s.putSkew x b).sas = s.sas := rfl
@[simp] theorem State.putSkew_oq (x : Side) (b : Int) : (s.putSkew x b).oq = s.oq := rfl
@[simp] theorem State.putSkew_sns (x : Side) (b : Int) : (s.putSkew x b).sns = s.sns := rfl
@[simp] theorem State.putSkew_psc (x : Side) (b : Int) : (s.putSkew x b).psc = s.psc := rfl
@[simp] theorem State.putSkew_link (x : Side) (b : Int) : (s.putSkew x b).link = s.link := rfl
@[simp] theorem State.putSkew_notices (x : Side) (b : Int) : (s.putSkew x b).notices = s.notices := rfl

@[simp] theorem State.stopConverters_pending  : (s.stopConverters).pending = s.pending := rfl
@[simp] theorem State.stopConverters_clock  : (s.stopConverters).clock = s.clock := rfl
@[simp] theorem State.stopConverters_crg  : (s.stopConverters).crg = s.crg := rfl
@[simp] theorem State.stopConverters_rtr  : (s.stopConverters).rtr = s.rtr := rfl
@[simp] theorem State.stopConverters_lvm  : (s.stopConverters).lvm = s.lvm := rfl
@[simp] theorem State.stopConverters_dfl  : (s.stopConverters).dfl = s.dfl := rfl
@[simp] theorem State.stopConverters_rsp  : (s.stopConverters).rsp = s.rsp := rfl
@[simp] theorem State.stopConverters_sas  : (s.stopConverters).sas = s.sas := rfl
@[simp] theorem State.stopConverters_oq  : (s.stopConverters).oq = s.oq := rfl
@[simp] theorem State.stopConverters_sns  : (s.stopConverters).sns = s.sns := rfl
@[simp] theorem State.stopConverters_psc  : (s.stopConverters).psc = s.psc := rfl
@[simp] theorem State.stopConverters_link  : (s.stopConverters).link = s.link := rfl
@[simp] theorem State.stopConverters_notices  : (s.stopConverters).notices = s.notices := rfl

@[simp] theorem State.advanceCapture_pending  : (s.advanceCapture).pending = s.pending := rfl
@[simp] theorem State.advanceCapture_clock  : (s.advanceCapture).clock = s.clock := rfl
@[simp] theorem State.advanceCapture_rtr  : (s.advanceCapture).rtr = s.rtr := rfl
@[simp] theorem State.advanceCapture_lvm  : (s.advanceCapture).lvm = s.lvm := rfl
@[simp] theorem State.advanceCapture_dfl  : (s.advanceCapture).dfl = s.dfl := rfl
@[simp] theorem State.advanceCapture_rsp  : (s.advanceCapture).rsp = s.rsp := rfl
@[simp] theorem State.advanceCapture_sas  : (s.advanceCapture).sas = s.sas := rfl
@[simp] theorem State.advanceCapture_oq  : (s.advanceCapture).oq = s.oq := rfl
@[simp] theorem State.advanceCapture_sns  : (s.advanceCapture).sns = s.sns := rfl
@[simp] theorem State.advanceCapture_psc  : (s.advanceCapture).psc = s.psc := rfl
@[simp] theorem State.advanceCapture_link  : (s.advanceCapture).link = s.link := rfl
@[simp] theorem State.advanceCapture_notices  : (s.advanceCapture).notices = s.notices := rfl

@[simp] theorem State.writeRings_pending (y : PerTrack Int) : (s.writeRings y).pending = s.pending := rfl
@[simp] theorem State.writeRings_clock (y : PerTrack Int) : (s.writeRings y).clock = s.clock := rfl
@[simp] theorem State.writeRings_cfe (y : PerTrack Int) : (s.writeRings y).cfe = s.cfe := rfl
@[simp] theorem State.writeRings_rtr (y : PerTrack Int) : (s.writeRings y).rtr = s.rtr := rfl
@[simp] theorem State.writeRings_lvm (y : PerTrack Int) : (s.writeRings y).lvm = s.lvm := rfl
@[simp] theorem State.writeRings_dfl (y : PerTrack Int) : (s.writeRings y).dfl = s.dfl := rfl
@[simp] theorem State.writeRings_rsp (y : PerTrack Int) : (s.writeRings y).rsp = s.rsp := rfl
@[simp] theorem State.writeRings_sas (y : PerTrack Int) : (s.writeRings y).sas = s.sas := rfl
@[simp] theorem State.writeRings_oq (y : PerTrack Int) : (s.writeRings y).oq = s.oq := rfl
@[simp] theorem State.writeRings_sns (y : PerTrack Int) : (s.writeRings y).sns = s.sns := rfl
@[simp] theorem State.writeRings_psc (y : PerTrack Int) : (s.writeRings y).psc = s.psc := rfl
@[simp] theorem State.writeRings_link (y : PerTrack Int) : (s.writeRings y).link = s.link := rfl
@[simp] theorem State.writeRings_notices (y : PerTrack Int) : (s.writeRings y).notices = s.notices := rfl

@[simp] theorem State.settleDefects_pending  : (s.settleDefects).pending = s.pending := rfl
@[simp] theorem State.settleDefects_clock  : (s.settleDefects).clock = s.clock := rfl
@[simp] theorem State.settleDefects_cfe  : (s.settleDefects).cfe = s.cfe := rfl
@[simp] theorem State.settleDefects_crg  : (s.settleDefects).crg = s.crg := rfl
@[simp] theorem State.settleDefects_rtr  : (s.settleDefects).rtr = s.rtr := rfl
@[simp] theorem State.settleDefects_lvm  : (s.settleDefects).lvm = s.lvm := rfl
@[simp] theorem State.settleDefects_rsp  : (s.settleDefects).rsp = s.rsp := rfl
@[simp] theorem State.settleDefects_sas  : (s.settleDefects).sas = s.sas := rfl
@[simp] theorem State.settleDefects_oq  : (s.settleDefects).oq = s.oq := rfl
@[simp] theorem State.settleDefects_sns  : (s.settleDefects).sns = s.sns := rfl
@[simp] theorem State.settleDefects_psc  : (s.settleDefects).psc = s.psc := rfl
@[simp] theorem State.settleDefects_link  : (s.settleDefects).link = s.link := rfl
@[simp] theorem State.settleDefects_notices  : (s.settleDefects).notices = s.notices := rfl

@[simp] theorem State.testGates_pending  : (s.testGates).pending = s.pending := rfl
@[simp] theorem State.testGates_clock  : (s.testGates).clock = s.clock := rfl
@[simp] theorem State.testGates_cfe  : (s.testGates).cfe = s.cfe := rfl
@[simp] theorem State.testGates_crg  : (s.testGates).crg = s.crg := rfl
@[simp] theorem State.testGates_rtr  : (s.testGates).rtr = s.rtr := rfl
@[simp] theorem State.testGates_lvm  : (s.testGates).lvm = s.lvm := rfl
@[simp] theorem State.testGates_dfl  : (s.testGates).dfl = s.dfl := rfl
@[simp] theorem State.testGates_sas  : (s.testGates).sas = s.sas := rfl
@[simp] theorem State.testGates_oq  : (s.testGates).oq = s.oq := rfl
@[simp] theorem State.testGates_sns  : (s.testGates).sns = s.sns := rfl
@[simp] theorem State.testGates_psc  : (s.testGates).psc = s.psc := rfl
@[simp] theorem State.testGates_link  : (s.testGates).link = s.link := rfl
@[simp] theorem State.testGates_notices  : (s.testGates).notices = s.notices := rfl

@[simp] theorem State.passTicks_pending  : (s.passTicks).pending = s.pending := rfl
@[simp] theorem State.passTicks_clock  : (s.passTicks).clock = s.clock := rfl
@[simp] theorem State.passTicks_cfe  : (s.passTicks).cfe = s.cfe := rfl
@[simp] theorem State.passTicks_crg  : (s.passTicks).crg = s.crg := rfl
@[simp] theorem State.passTicks_rtr  : (s.passTicks).rtr = s.rtr := rfl
@[simp] theorem State.passTicks_lvm  : (s.passTicks).lvm = s.lvm := rfl
@[simp] theorem State.passTicks_dfl  : (s.passTicks).dfl = s.dfl := rfl
@[simp] theorem State.passTicks_rsp  : (s.passTicks).rsp = s.rsp := rfl
@[simp] theorem State.passTicks_sas  : (s.passTicks).sas = s.sas := rfl
@[simp] theorem State.passTicks_oq  : (s.passTicks).oq = s.oq := rfl
@[simp] theorem State.passTicks_psc  : (s.passTicks).psc = s.psc := rfl
@[simp] theorem State.passTicks_link  : (s.passTicks).link = s.link := rfl
@[simp] theorem State.passTicks_notices  : (s.passTicks).notices = s.notices := rfl

@[simp] theorem State.abortOutput_pending  : (s.abortOutput).pending = s.pending := rfl
@[simp] theorem State.abortOutput_clock  : (s.abortOutput).clock = s.clock := rfl
@[simp] theorem State.abortOutput_cfe  : (s.abortOutput).cfe = s.cfe := rfl
@[simp] theorem State.abortOutput_crg  : (s.abortOutput).crg = s.crg := rfl
@[simp] theorem State.abortOutput_rtr  : (s.abortOutput).rtr = s.rtr := rfl
@[simp] theorem State.abortOutput_lvm  : (s.abortOutput).lvm = s.lvm := rfl
@[simp] theorem State.abortOutput_dfl  : (s.abortOutput).dfl = s.dfl := rfl
@[simp] theorem State.abortOutput_oq  : (s.abortOutput).oq = { s.oq with granted := [] } := rfl
@[simp] theorem State.abortOutput_sns  : (s.abortOutput).sns = s.sns := rfl
@[simp] theorem State.abortOutput_psc  : (s.abortOutput).psc = s.psc := rfl
@[simp] theorem State.abortOutput_link  : (s.abortOutput).link = s.link := rfl
@[simp] theorem State.abortOutput_notices  : (s.abortOutput).notices = s.notices := rfl

@[simp] theorem State.freeSlot_pending : (s.freeSlot).pending = s.pending := rfl
@[simp] theorem State.freeSlot_clock : (s.freeSlot).clock = s.clock := rfl
@[simp] theorem State.freeSlot_cfe : (s.freeSlot).cfe = s.cfe := rfl
@[simp] theorem State.freeSlot_crg : (s.freeSlot).crg = s.crg := rfl
@[simp] theorem State.freeSlot_rtr : (s.freeSlot).rtr = s.rtr := rfl
@[simp] theorem State.freeSlot_lvm : (s.freeSlot).lvm = s.lvm := rfl
@[simp] theorem State.freeSlot_dfl : (s.freeSlot).dfl = s.dfl := rfl
@[simp] theorem State.freeSlot_rsp : (s.freeSlot).rsp = s.rsp := rfl
@[simp] theorem State.freeSlot_sas : (s.freeSlot).sas = s.sas := rfl
@[simp] theorem State.freeSlot_sns : (s.freeSlot).sns = s.sns := rfl
@[simp] theorem State.freeSlot_psc : (s.freeSlot).psc = s.psc := rfl
@[simp] theorem State.freeSlot_link : (s.freeSlot).link = s.link := rfl
@[simp] theorem State.freeSlot_notices : (s.freeSlot).notices = s.notices := rfl
@[simp] theorem State.freeSlot_blocks : (s.freeSlot).oq.blocks = s.oq.blocks.tail := rfl
@[simp] theorem State.freeSlot_granted : (s.freeSlot).oq.granted = s.oq.granted ++ s.nextGrantee.toList := rfl

@[simp] theorem State.useGrant_pending : (s.useGrant).pending = s.pending := rfl
@[simp] theorem State.useGrant_clock : (s.useGrant).clock = s.clock := rfl
@[simp] theorem State.useGrant_cfe : (s.useGrant).cfe = s.cfe := rfl
@[simp] theorem State.useGrant_crg : (s.useGrant).crg = s.crg := rfl
@[simp] theorem State.useGrant_rtr : (s.useGrant).rtr = s.rtr := rfl
@[simp] theorem State.useGrant_lvm : (s.useGrant).lvm = s.lvm := rfl
@[simp] theorem State.useGrant_dfl : (s.useGrant).dfl = s.dfl := rfl
@[simp] theorem State.useGrant_rsp : (s.useGrant).rsp = s.rsp := rfl
@[simp] theorem State.useGrant_sas : (s.useGrant).sas = s.sas := rfl
@[simp] theorem State.useGrant_sns : (s.useGrant).sns = s.sns := rfl
@[simp] theorem State.useGrant_psc : (s.useGrant).psc = s.psc := rfl
@[simp] theorem State.useGrant_link : (s.useGrant).link = s.link := rfl
@[simp] theorem State.useGrant_notices : (s.useGrant).notices = s.notices := rfl
@[simp] theorem State.useGrant_blocks : (s.useGrant).oq.blocks = s.oq.blocks := rfl
@[simp] theorem State.useGrant_granted : (s.useGrant).oq.granted = s.oq.granted.tail := rfl

@[simp] theorem State.sealStream_granted (i : Fin 8) (final : Bool) (next : StreamState) : (s.sealStream i final next).oq.granted = s.oq.granted := rfl
@[simp] theorem State.sealStream_pending (i : Fin 8) (final : Bool) (next : StreamState) : (s.sealStream i final next).pending = s.pending := rfl
@[simp] theorem State.sealStream_clock (i : Fin 8) (final : Bool) (next : StreamState) : (s.sealStream i final next).clock = s.clock := rfl
@[simp] theorem State.sealStream_cfe (i : Fin 8) (final : Bool) (next : StreamState) : (s.sealStream i final next).cfe = s.cfe := rfl
@[simp] theorem State.sealStream_crg (i : Fin 8) (final : Bool) (next : StreamState) : (s.sealStream i final next).crg = s.crg := rfl
@[simp] theorem State.sealStream_rtr (i : Fin 8) (final : Bool) (next : StreamState) : (s.sealStream i final next).rtr = s.rtr := rfl
@[simp] theorem State.sealStream_lvm (i : Fin 8) (final : Bool) (next : StreamState) : (s.sealStream i final next).lvm = s.lvm := rfl
@[simp] theorem State.sealStream_dfl (i : Fin 8) (final : Bool) (next : StreamState) : (s.sealStream i final next).dfl = s.dfl := rfl
@[simp] theorem State.sealStream_rsp (i : Fin 8) (final : Bool) (next : StreamState) : (s.sealStream i final next).rsp = s.rsp := rfl
@[simp] theorem State.sealStream_sns (i : Fin 8) (final : Bool) (next : StreamState) : (s.sealStream i final next).sns = s.sns := rfl
@[simp] theorem State.sealStream_psc (i : Fin 8) (final : Bool) (next : StreamState) : (s.sealStream i final next).psc = s.psc := rfl
@[simp] theorem State.sealStream_link (i : Fin 8) (final : Bool) (next : StreamState) : (s.sealStream i final next).link = s.link := rfl
@[simp] theorem State.sealStream_notices (i : Fin 8) (final : Bool) (next : StreamState) : (s.sealStream i final next).notices = s.notices := rfl

@[simp] theorem State.renewPass_pending (arming : Bool) : (s.renewPass arming).pending = s.pending := rfl
@[simp] theorem State.renewPass_clock (arming : Bool) : (s.renewPass arming).clock = s.clock := rfl
@[simp] theorem State.renewPass_oq (arming : Bool) : (s.renewPass arming).oq = s.oq := rfl
@[simp] theorem State.renewPass_link (arming : Bool) : (s.renewPass arming).link = s.link := rfl
@[simp] theorem State.renewPass_notices (arming : Bool) : (s.renewPass arming).notices = s.notices := rfl

@[simp] theorem State.beginCapture_pending  : (s.beginCapture).pending = s.pending := rfl
@[simp] theorem State.beginCapture_clock  : (s.beginCapture).clock = s.clock := rfl
@[simp] theorem State.beginCapture_crg  : (s.beginCapture).crg = s.crg := rfl
@[simp] theorem State.beginCapture_dfl  : (s.beginCapture).dfl = s.dfl := rfl
@[simp] theorem State.beginCapture_oq  : (s.beginCapture).oq = s.oq := rfl
@[simp] theorem State.beginCapture_link  : (s.beginCapture).link = s.link := rfl
@[simp] theorem State.beginCapture_notices  : (s.beginCapture).notices = s.notices := rfl

@[simp] theorem State.restartPart_pending  : (s.restartPart).pending = s.pending := rfl
@[simp] theorem State.restartPart_clock  : (s.restartPart).clock = s.clock := rfl
@[simp] theorem State.restartPart_link  : (s.restartPart).link = s.link := rfl

@[simp] theorem State.notify_notices (b : NoticeBody) (n : Nat) : (s.notify b n).notices = s.notices.push ⟨b, n⟩ := rfl
@[simp] theorem State.putTracker_rtr (x : Side) (t : Tracker) : (s.putTracker x t).rtr = s.rtr.set x t := rfl
@[simp] theorem State.store_psc (g : Settings) : (s.store g).psc = { s.psc with stored := g } := rfl
@[simp] theorem State.trail_link : s.trail.link = { s.link with phase := .trail } := rfl
@[simp] theorem State.putSkew_rsp (x : Side) (b : Int) :
    (s.putSkew x b).rsp = s.rsp.set x { s.rsp.get x with baseSkew := b } := rfl
@[simp] theorem State.stopConverters_cfe :
    s.stopConverters.cfe = { s.cfe with converter := .stopped, settleCount := 0, gathered := [] } := rfl
@[simp] theorem State.advanceCapture_crg : s.advanceCapture.crg = { s.crg with w := s.crg.w + 1 } := rfl
@[simp] theorem State.advanceCapture_cfe :
    s.advanceCapture.cfe = { s.cfe with wideCount := 4 * (s.crg.w + 1), gathered := [] } := rfl
@[simp] theorem State.settleDefects_dfl : s.settleDefects.dfl = s.dfl.settle s.settlingLimit := rfl

/-- A reply formed leaves all but the link as the request's own rule left it. -/
@[simp] theorem Answer.send_keeps (a : Answer) (k : Byte) :
    (a.send k).pending = a.state.pending ∧ (a.send k).clock = a.state.clock ∧ (a.send k).cfe = a.state.cfe ∧
      (a.send k).crg = a.state.crg ∧ (a.send k).rtr = a.state.rtr ∧ (a.send k).lvm = a.state.lvm ∧
      (a.send k).dfl = a.state.dfl ∧ (a.send k).rsp = a.state.rsp ∧ (a.send k).sas = a.state.sas ∧
      (a.send k).oq = a.state.oq ∧ (a.send k).sns = a.state.sns ∧ (a.send k).psc = a.state.psc ∧
      (a.send k).notices = a.state.notices :=
  ⟨rfl, rfl, rfl, rfl, rfl, rfl, rfl, rfl, rfl, rfl, rfl, rfl, rfl⟩

@[simp] theorem Answer.send_link (a : Answer) (k : Byte) : (a.send k).link = answered k a.status a.payload := rfl

/-- A line reset keeps the queue of commands and the model's clock, and nothing else of the state before it. -/
theorem State.lineResetPart_eq (held : Bool) (levels : PerLine Bool) :
    s.lineResetPart held levels =
      { State.reset with
        pending := s.pending, clock := ⟨s.clock.ticks, held⟩
        sns := { State.reset.sns with lines := levels.map fun b => ⟨b, 0, .disarmed⟩ } } := rfl

/-! ### Speed-table entries as the resampler reads them (spec/07 R101, R102, log 31) -/

/-- An entry that its slot holds is the one read. -/
theorem Tracker.entry_of_tableEntry {t : Tracker} {slots j : Nat} {e : SpeedEntry} (h : tableEntry t.table slots j = some e) :
    t.entry slots j = some e := by
  simp [Tracker.entry, h]

/-- Until an end-of-capture close displaces an entry, the table alone is read. -/
theorem Tracker.entry_of_none_displaced {t : Tracker} (h : t.displaced = none) (slots j : Nat) :
    t.entry slots j = tableEntry t.table slots j := by
  simp [Tracker.entry, h]

@[simp] theorem Tracker.finaliseTo_displaced (t : Tracker) (slots h n : Nat) : (t.finaliseTo slots h n).displaced = t.displaced := rfl

end Sys2Proof.Machine
end

