-- ==== Sys2Proof/Laws/Frames.lean ====
section
/-! SUPPORT. For each shared operation one lemma that lists every field it keeps, so that no proof unfolds the operation to see what
it leaves alone. What an operation may change is the rest. -/

namespace Sys2Proof.Machine

/-- A fold keeps what every one of its steps keeps. -/
theorem foldl_keeps {β γ : Type} {keep : State → γ} {f : State → β → State} (h : ∀ s b, keep (f s b) = keep s) (l : List β)
    (s : State) : keep (l.foldl f s) = keep s := by
  induction l generalizing s with
  | nil => rfl
  | cons b l ih => simp only [List.foldl_cons, ih, h]

/-- What `takeSpan` keeps. -/
@[simp] theorem State.takeSpan_keeps (s : State) (r : SpanReport) :
    (s.takeSpan r).pending = s.pending ∧ (s.takeSpan r).clock = s.clock ∧ (s.takeSpan r).cfe = s.cfe ∧
      (s.takeSpan r).crg = s.crg ∧ (s.takeSpan r).rtr = s.rtr ∧ (s.takeSpan r).lvm = s.lvm ∧ (s.takeSpan r).rsp = s.rsp ∧
      (s.takeSpan r).sas = s.sas ∧ (s.takeSpan r).oq = s.oq ∧ (s.takeSpan r).sns = s.sns ∧ (s.takeSpan r).psc = s.psc ∧
      (s.takeSpan r).link = s.link := by
  unfold State.takeSpan
  simp only []
  split <;> simp

/-- What `report` keeps. -/
@[simp] theorem State.report_keeps (s : State) (r : Report) :
    (s.report r).pending = s.pending ∧ (s.report r).clock = s.clock ∧ (s.report r).cfe = s.cfe ∧ (s.report r).crg = s.crg ∧
      (s.report r).rtr = s.rtr ∧ (s.report r).lvm = s.lvm ∧ (s.report r).rsp = s.rsp ∧ (s.report r).sas = s.sas ∧
      (s.report r).oq = s.oq ∧ (s.report r).sns = s.sns ∧ (s.report r).psc = s.psc ∧ (s.report r).link = s.link := by
  cases r with
  | growth r => simp [State.report]
  | span r =>
    exact ⟨foldl_keeps (keep := State.pending) (fun t b => by simp) _ _,
      foldl_keeps (keep := State.clock) (fun t b => by simp) _ _,
      foldl_keeps (keep := State.cfe) (fun t b => by simp) _ _,
      foldl_keeps (keep := State.crg) (fun t b => by simp) _ _,
      foldl_keeps (keep := State.rtr) (fun t b => by simp) _ _,
      foldl_keeps (keep := State.lvm) (fun t b => by simp) _ _,
      foldl_keeps (keep := State.rsp) (fun t b => by simp) _ _,
      foldl_keeps (keep := State.sas) (fun t b => by simp) _ _,
      foldl_keeps (keep := State.oq) (fun t b => by simp) _ _,
      foldl_keeps (keep := State.sns) (fun t b => by simp) _ _,
      foldl_keeps (keep := State.psc) (fun t b => by simp) _ _,
      foldl_keeps (keep := State.link) (fun t b => by simp) _ _⟩

/-- What `reports` keeps. -/
@[simp] theorem State.reports_keeps (s : State) (rs : List Report) :
    (s.reports rs).pending = s.pending ∧ (s.reports rs).clock = s.clock ∧ (s.reports rs).cfe = s.cfe ∧
      (s.reports rs).crg = s.crg ∧ (s.reports rs).rtr = s.rtr ∧ (s.reports rs).lvm = s.lvm ∧ (s.reports rs).rsp = s.rsp ∧
      (s.reports rs).sas = s.sas ∧ (s.reports rs).oq = s.oq ∧ (s.reports rs).sns = s.sns ∧ (s.reports rs).psc = s.psc ∧
      (s.reports rs).link = s.link := by
  unfold State.reports
  exact ⟨foldl_keeps (keep := State.pending) (fun t b => by simp) _ _,
    foldl_keeps (keep := State.clock) (fun t b => by simp) _ _,
    foldl_keeps (keep := State.cfe) (fun t b => by simp) _ _,
    foldl_keeps (keep := State.crg) (fun t b => by simp) _ _,
    foldl_keeps (keep := State.rtr) (fun t b => by simp) _ _,
    foldl_keeps (keep := State.lvm) (fun t b => by simp) _ _,
    foldl_keeps (keep := State.rsp) (fun t b => by simp) _ _,
    foldl_keeps (keep := State.sas) (fun t b => by simp) _ _,
    foldl_keeps (keep := State.oq) (fun t b => by simp) _ _,
    foldl_keeps (keep := State.sns) (fun t b => by simp) _ _,
    foldl_keeps (keep := State.psc) (fun t b => by simp) _ _,
    foldl_keeps (keep := State.link) (fun t b => by simp) _ _⟩

/-- What `putClip` keeps. -/
@[simp] theorem State.putClip_keeps (s : State) (t : Track) (out : ClipDetector × List Report) :
    (s.putClip t out).pending = s.pending ∧ (s.putClip t out).clock = s.clock ∧
      (s.putClip t out).cfe.converter = s.cfe.converter ∧ (s.putClip t out).cfe.settleCount = s.cfe.settleCount ∧
      (s.putClip t out).cfe.wideCount = s.cfe.wideCount ∧ (s.putClip t out).cfe.gathered = s.cfe.gathered ∧
      (s.putClip t out).cfe.watched = s.cfe.watched ∧ (s.putClip t out).crg = s.crg ∧ (s.putClip t out).rtr = s.rtr ∧
      (s.putClip t out).lvm = s.lvm ∧ (s.putClip t out).rsp = s.rsp ∧ (s.putClip t out).sas = s.sas ∧
      (s.putClip t out).oq = s.oq ∧ (s.putClip t out).sns = s.sns ∧ (s.putClip t out).psc = s.psc ∧
      (s.putClip t out).link = s.link := by
  simp [State.putClip]

/-- What `clipTake` keeps. -/
@[simp] theorem State.clipTake_keeps (s : State) (n : Nat) (g : WideGroup) :
    (s.clipTake n g).pending = s.pending ∧ (s.clipTake n g).clock = s.clock ∧
      (s.clipTake n g).cfe.converter = s.cfe.converter ∧ (s.clipTake n g).cfe.settleCount = s.cfe.settleCount ∧
      (s.clipTake n g).cfe.wideCount = s.cfe.wideCount ∧ (s.clipTake n g).cfe.gathered = s.cfe.gathered ∧
      (s.clipTake n g).cfe.watched = s.cfe.watched ∧ (s.clipTake n g).crg = s.crg ∧ (s.clipTake n g).rtr = s.rtr ∧
      (s.clipTake n g).lvm = s.lvm ∧ (s.clipTake n g).rsp = s.rsp ∧ (s.clipTake n g).sas = s.sas ∧
      (s.clipTake n g).oq = s.oq ∧ (s.clipTake n g).sns = s.sns ∧ (s.clipTake n g).psc = s.psc ∧
      (s.clipTake n g).link = s.link := by
  unfold State.clipTake
  exact ⟨foldl_keeps (keep := State.pending) (fun t b => by simp) _ _,
    foldl_keeps (keep := State.clock) (fun t b => by simp) _ _,
    foldl_keeps (keep := fun t => t.cfe.converter) (fun t b => by simp) _ _,
    foldl_keeps (keep := fun t => t.cfe.settleCount) (fun t b => by simp) _ _,
    foldl_keeps (keep := fun t => t.cfe.wideCount) (fun t b => by simp) _ _,
    foldl_keeps (keep := fun t => t.cfe.gathered) (fun t b => by simp) _ _,
    foldl_keeps (keep := fun t => t.cfe.watched) (fun t b => by simp) _ _,
    foldl_keeps (keep := State.crg) (fun t b => by simp) _ _,
    foldl_keeps (keep := State.rtr) (fun t b => by simp) _ _,
    foldl_keeps (keep := State.lvm) (fun t b => by simp) _ _,
    foldl_keeps (keep := State.rsp) (fun t b => by simp) _ _,
    foldl_keeps (keep := State.sas) (fun t b => by simp) _ _,
    foldl_keeps (keep := State.oq) (fun t b => by simp) _ _,
    foldl_keeps (keep := State.sns) (fun t b => by simp) _ _,
    foldl_keeps (keep := State.psc) (fun t b => by simp) _ _,
    foldl_keeps (keep := State.link) (fun t b => by simp) _ _⟩

/-- What `clipFinish` keeps. -/
@[simp] theorem State.clipFinish_keeps (s : State) :
    (s.clipFinish).pending = s.pending ∧ (s.clipFinish).clock = s.clock ∧ (s.clipFinish).cfe.converter = s.cfe.converter ∧
      (s.clipFinish).cfe.settleCount = s.cfe.settleCount ∧ (s.clipFinish).cfe.wideCount = s.cfe.wideCount ∧
      (s.clipFinish).cfe.gathered = s.cfe.gathered ∧ (s.clipFinish).cfe.watched = s.cfe.watched ∧
      (s.clipFinish).crg = s.crg ∧ (s.clipFinish).rtr = s.rtr ∧ (s.clipFinish).lvm = s.lvm ∧ (s.clipFinish).rsp = s.rsp ∧
      (s.clipFinish).sas = s.sas ∧ (s.clipFinish).oq = s.oq ∧ (s.clipFinish).sns = s.sns ∧ (s.clipFinish).psc = s.psc ∧
      (s.clipFinish).link = s.link := by
  unfold State.clipFinish
  exact ⟨foldl_keeps (keep := State.pending) (fun t b => by simp) _ _,
    foldl_keeps (keep := State.clock) (fun t b => by simp) _ _,
    foldl_keeps (keep := fun t => t.cfe.converter) (fun t b => by simp) _ _,
    foldl_keeps (keep := fun t => t.cfe.settleCount) (fun t b => by simp) _ _,
    foldl_keeps (keep := fun t => t.cfe.wideCount) (fun t b => by simp) _ _,
    foldl_keeps (keep := fun t => t.cfe.gathered) (fun t b => by simp) _ _,
    foldl_keeps (keep := fun t => t.cfe.watched) (fun t b => by simp) _ _,
    foldl_keeps (keep := State.crg) (fun t b => by simp) _ _,
    foldl_keeps (keep := State.rtr) (fun t b => by simp) _ _,
    foldl_keeps (keep := State.lvm) (fun t b => by simp) _ _,
    foldl_keeps (keep := State.rsp) (fun t b => by simp) _ _,
    foldl_keeps (keep := State.sas) (fun t b => by simp) _ _,
    foldl_keeps (keep := State.oq) (fun t b => by simp) _ _,
    foldl_keeps (keep := State.sns) (fun t b => by simp) _ _,
    foldl_keeps (keep := State.psc) (fun t b => by simp) _ _,
    foldl_keeps (keep := State.link) (fun t b => by simp) _ _⟩

/-- What `takeSourceCues` keeps. -/
@[simp] theorem State.takeSourceCues_keeps (s : State) (x : Side) (b : Nat) :
    (s.takeSourceCues x b).pending = s.pending ∧ (s.takeSourceCues x b).clock = s.clock ∧
      (s.takeSourceCues x b).cfe = s.cfe ∧ (s.takeSourceCues x b).crg = s.crg ∧ (s.takeSourceCues x b).lvm = s.lvm ∧
      (s.takeSourceCues x b).dfl = s.dfl ∧ (s.takeSourceCues x b).rsp = s.rsp ∧ (s.takeSourceCues x b).sas = s.sas ∧
      (s.takeSourceCues x b).oq = s.oq ∧ (s.takeSourceCues x b).sns = s.sns ∧
      (s.takeSourceCues x b).psc.state = s.psc.state ∧ (s.takeSourceCues x b).psc.cause = s.psc.cause ∧
      (s.takeSourceCues x b).psc.startPending = s.psc.startPending ∧ (s.takeSourceCues x b).psc.armed = s.psc.armed ∧
      (s.takeSourceCues x b).psc.stored = s.psc.stored ∧ (s.takeSourceCues x b).psc.pass = s.psc.pass ∧
      (s.takeSourceCues x b).psc.nominal = s.psc.nominal ∧ (s.takeSourceCues x b).psc.coefficients = s.psc.coefficients ∧
      (s.takeSourceCues x b).link = s.link := by
  unfold State.takeSourceCues State.takeCues
  exact ⟨(foldl_keeps (keep := State.pending) (fun t c => by simp [applySourceCue]; split <;> rfl) _ _).trans rfl,
    (foldl_keeps (keep := State.clock) (fun t c => by simp [applySourceCue]; split <;> rfl) _ _).trans rfl,
    (foldl_keeps (keep := State.cfe) (fun t c => by simp [applySourceCue]; split <;> rfl) _ _).trans rfl,
    (foldl_keeps (keep := State.crg) (fun t c => by simp [applySourceCue]; split <;> rfl) _ _).trans rfl,
    (foldl_keeps (keep := State.lvm) (fun t c => by simp [applySourceCue]; split <;> rfl) _ _).trans rfl,
    (foldl_keeps (keep := State.dfl) (fun t c => by simp [applySourceCue]; split <;> rfl) _ _).trans rfl,
    (foldl_keeps (keep := State.rsp) (fun t c => by simp [applySourceCue]; split <;> rfl) _ _).trans rfl,
    (foldl_keeps (keep := State.sas) (fun t c => by simp [applySourceCue]; split <;> rfl) _ _).trans rfl,
    (foldl_keeps (keep := State.oq) (fun t c => by simp [applySourceCue]; split <;> rfl) _ _).trans rfl,
    (foldl_keeps (keep := State.sns) (fun t c => by simp [applySourceCue]; split <;> rfl) _ _).trans rfl,
    (foldl_keeps (keep := fun t => t.psc.state) (fun t c => by simp [applySourceCue]; split <;> rfl) _ _).trans rfl,
    (foldl_keeps (keep := fun t => t.psc.cause) (fun t c => by simp [applySourceCue]; split <;> rfl) _ _).trans rfl,
    (foldl_keeps (keep := fun t => t.psc.startPending) (fun t c => by simp [applySourceCue]; split <;> rfl) _ _).trans rfl,
    (foldl_keeps (keep := fun t => t.psc.armed) (fun t c => by simp [applySourceCue]; split <;> rfl) _ _).trans rfl,
    (foldl_keeps (keep := fun t => t.psc.stored) (fun t c => by simp [applySourceCue]; split <;> rfl) _ _).trans rfl,
    (foldl_keeps (keep := fun t => t.psc.pass) (fun t c => by simp [applySourceCue]; split <;> rfl) _ _).trans rfl,
    (foldl_keeps (keep := fun t => t.psc.nominal) (fun t c => by simp [applySourceCue]; split <;> rfl) _ _).trans rfl,
    (foldl_keeps (keep := fun t => t.psc.coefficients) (fun t c => by simp [applySourceCue]; split <;> rfl) _ _).trans rfl,
    (foldl_keeps (keep := State.link) (fun t c => by simp [applySourceCue]; split <;> rfl) _ _).trans rfl⟩

/-- What `takeLevelCues` keeps. -/
@[simp] theorem State.takeLevelCues_keeps (s : State) (x : Side) (b : Nat) :
    (s.takeLevelCues x b).pending = s.pending ∧ (s.takeLevelCues x b).clock = s.clock ∧ (s.takeLevelCues x b).cfe = s.cfe ∧
      (s.takeLevelCues x b).crg = s.crg ∧ (s.takeLevelCues x b).rtr = s.rtr ∧ (s.takeLevelCues x b).dfl = s.dfl ∧
      (s.takeLevelCues x b).rsp = s.rsp ∧ (s.takeLevelCues x b).sas = s.sas ∧ (s.takeLevelCues x b).oq = s.oq ∧
      (s.takeLevelCues x b).sns = s.sns ∧ (s.takeLevelCues x b).psc.state = s.psc.state ∧
      (s.takeLevelCues x b).psc.cause = s.psc.cause ∧ (s.takeLevelCues x b).psc.startPending = s.psc.startPending ∧
      (s.takeLevelCues x b).psc.armed = s.psc.armed ∧ (s.takeLevelCues x b).psc.stored = s.psc.stored ∧
      (s.takeLevelCues x b).psc.pass = s.psc.pass ∧ (s.takeLevelCues x b).psc.nominal = s.psc.nominal ∧
      (s.takeLevelCues x b).psc.coefficients = s.psc.coefficients ∧ (s.takeLevelCues x b).link = s.link := by
  unfold State.takeLevelCues State.takeCues
  exact ⟨(foldl_keeps (keep := State.pending) (fun t c => by simp [applyLevelCue]; split <;> rfl) _ _).trans rfl,
    (foldl_keeps (keep := State.clock) (fun t c => by simp [applyLevelCue]; split <;> rfl) _ _).trans rfl,
    (foldl_keeps (keep := State.cfe) (fun t c => by simp [applyLevelCue]; split <;> rfl) _ _).trans rfl,
    (foldl_keeps (keep := State.crg) (fun t c => by simp [applyLevelCue]; split <;> rfl) _ _).trans rfl,
    (foldl_keeps (keep := State.rtr) (fun t c => by simp [applyLevelCue]; split <;> rfl) _ _).trans rfl,
    (foldl_keeps (keep := State.dfl) (fun t c => by simp [applyLevelCue]; split <;> rfl) _ _).trans rfl,
    (foldl_keeps (keep := State.rsp) (fun t c => by simp [applyLevelCue]; split <;> rfl) _ _).trans rfl,
    (foldl_keeps (keep := State.sas) (fun t c => by simp [applyLevelCue]; split <;> rfl) _ _).trans rfl,
    (foldl_keeps (keep := State.oq) (fun t c => by simp [applyLevelCue]; split <;> rfl) _ _).trans rfl,
    (foldl_keeps (keep := State.sns) (fun t c => by simp [applyLevelCue]; split <;> rfl) _ _).trans rfl,
    (foldl_keeps (keep := fun t => t.psc.state) (fun t c => by simp [applyLevelCue]; split <;> rfl) _ _).trans rfl,
    (foldl_keeps (keep := fun t => t.psc.cause) (fun t c => by simp [applyLevelCue]; split <;> rfl) _ _).trans rfl,
    (foldl_keeps (keep := fun t => t.psc.startPending) (fun t c => by simp [applyLevelCue]; split <;> rfl) _ _).trans rfl,
    (foldl_keeps (keep := fun t => t.psc.armed) (fun t c => by simp [applyLevelCue]; split <;> rfl) _ _).trans rfl,
    (foldl_keeps (keep := fun t => t.psc.stored) (fun t c => by simp [applyLevelCue]; split <;> rfl) _ _).trans rfl,
    (foldl_keeps (keep := fun t => t.psc.pass) (fun t c => by simp [applyLevelCue]; split <;> rfl) _ _).trans rfl,
    (foldl_keeps (keep := fun t => t.psc.nominal) (fun t c => by simp [applyLevelCue]; split <;> rfl) _ _).trans rfl,
    (foldl_keeps (keep := fun t => t.psc.coefficients) (fun t c => by simp [applyLevelCue]; split <;> rfl) _ _).trans rfl,
    (foldl_keeps (keep := State.link) (fun t c => by simp [applyLevelCue]; split <;> rfl) _ _).trans rfl⟩

/-- What `closeWindow` keeps. -/
@[simp] theorem State.closeWindow_keeps (s : State) (x : Side) (n : Nat) (atEnd : Bool) (o : Nat) :
    (s.closeWindow x n atEnd o).pending = s.pending ∧ (s.closeWindow x n atEnd o).clock = s.clock ∧
      (s.closeWindow x n atEnd o).cfe = s.cfe ∧ (s.closeWindow x n atEnd o).crg = s.crg ∧
      (s.closeWindow x n atEnd o).lvm = s.lvm ∧ (s.closeWindow x n atEnd o).rsp = s.rsp ∧
      (s.closeWindow x n atEnd o).sas = s.sas ∧ (s.closeWindow x n atEnd o).oq = s.oq ∧
      (s.closeWindow x n atEnd o).sns = s.sns ∧ (s.closeWindow x n atEnd o).psc = s.psc ∧
      (s.closeWindow x n atEnd o).link = s.link := by
  unfold State.closeWindow
  simp only []
  (repeat' split) <;> simp

/-- What `boundary` keeps. -/
@[simp] theorem State.boundary_keeps (s : State) (x : Side) (n : Nat) (l r : Int) :
    (s.boundary x n l r).pending = s.pending ∧ (s.boundary x n l r).clock = s.clock ∧ (s.boundary x n l r).cfe = s.cfe ∧
      (s.boundary x n l r).crg = s.crg ∧ (s.boundary x n l r).lvm = s.lvm ∧ (s.boundary x n l r).rsp = s.rsp ∧
      (s.boundary x n l r).sas = s.sas ∧ (s.boundary x n l r).oq = s.oq ∧ (s.boundary x n l r).sns = s.sns ∧
      (s.boundary x n l r).psc.state = s.psc.state ∧ (s.boundary x n l r).psc.cause = s.psc.cause ∧
      (s.boundary x n l r).psc.startPending = s.psc.startPending ∧ (s.boundary x n l r).psc.armed = s.psc.armed ∧
      (s.boundary x n l r).psc.stored = s.psc.stored ∧ (s.boundary x n l r).psc.pass = s.psc.pass ∧
      (s.boundary x n l r).psc.nominal = s.psc.nominal ∧ (s.boundary x n l r).psc.coefficients = s.psc.coefficients ∧
      (s.boundary x n l r).link = s.link := by
  simp [State.boundary]

/-- What `trackSide` keeps. -/
@[simp] theorem State.trackSide_keeps (s : State) (x : Side) (n : Nat) (g : WideGroup) :
    (s.trackSide x n g).pending = s.pending ∧ (s.trackSide x n g).clock = s.clock ∧ (s.trackSide x n g).cfe = s.cfe ∧
      (s.trackSide x n g).crg = s.crg ∧ (s.trackSide x n g).lvm = s.lvm ∧ (s.trackSide x n g).rsp = s.rsp ∧
      (s.trackSide x n g).sas = s.sas ∧ (s.trackSide x n g).oq = s.oq ∧ (s.trackSide x n g).sns = s.sns ∧
      (s.trackSide x n g).psc.state = s.psc.state ∧ (s.trackSide x n g).psc.cause = s.psc.cause ∧
      (s.trackSide x n g).psc.startPending = s.psc.startPending ∧ (s.trackSide x n g).psc.armed = s.psc.armed ∧
      (s.trackSide x n g).psc.stored = s.psc.stored ∧ (s.trackSide x n g).psc.pass = s.psc.pass ∧
      (s.trackSide x n g).psc.nominal = s.psc.nominal ∧ (s.trackSide x n g).psc.coefficients = s.psc.coefficients ∧
      (s.trackSide x n g).link = s.link := by
  unfold State.trackSide
  split
  · by_cases h : n = ((s.rtr.get x).windows + 1) * (s.psc.pass.sides.get x).window <;> simp [h]
  · simp

/-- What `trackGroup` keeps. -/
@[simp] theorem State.trackGroup_keeps (s : State) (n : Nat) (g : WideGroup) :
    (s.trackGroup n g).pending = s.pending ∧ (s.trackGroup n g).clock = s.clock ∧ (s.trackGroup n g).cfe = s.cfe ∧
      (s.trackGroup n g).crg = s.crg ∧ (s.trackGroup n g).lvm = s.lvm ∧ (s.trackGroup n g).rsp = s.rsp ∧
      (s.trackGroup n g).sas = s.sas ∧ (s.trackGroup n g).oq = s.oq ∧ (s.trackGroup n g).sns = s.sns ∧
      (s.trackGroup n g).psc.state = s.psc.state ∧ (s.trackGroup n g).psc.cause = s.psc.cause ∧
      (s.trackGroup n g).psc.startPending = s.psc.startPending ∧ (s.trackGroup n g).psc.armed = s.psc.armed ∧
      (s.trackGroup n g).psc.stored = s.psc.stored ∧ (s.trackGroup n g).psc.pass = s.psc.pass ∧
      (s.trackGroup n g).psc.nominal = s.psc.nominal ∧ (s.trackGroup n g).psc.coefficients = s.psc.coefficients ∧
      (s.trackGroup n g).link = s.link := by
  simp [State.trackGroup]

/-- What `finishSide` keeps. -/
@[simp] theorem State.finishSide_keeps (s : State) (x : Side) (e : Nat) :
    (s.finishSide x e).pending = s.pending ∧ (s.finishSide x e).clock = s.clock ∧ (s.finishSide x e).cfe = s.cfe ∧
      (s.finishSide x e).crg = s.crg ∧ (s.finishSide x e).lvm = s.lvm ∧ (s.finishSide x e).rsp = s.rsp ∧
      (s.finishSide x e).sas = s.sas ∧ (s.finishSide x e).oq = s.oq ∧ (s.finishSide x e).sns = s.sns ∧
      (s.finishSide x e).psc = s.psc ∧ (s.finishSide x e).link = s.link := by
  unfold State.finishSide
  simp only []
  split <;> simp

/-- What `trackFinish` keeps. -/
@[simp] theorem State.trackFinish_keeps (s : State) (e : Nat) :
    (s.trackFinish e).pending = s.pending ∧ (s.trackFinish e).clock = s.clock ∧ (s.trackFinish e).cfe = s.cfe ∧
      (s.trackFinish e).crg = s.crg ∧ (s.trackFinish e).lvm = s.lvm ∧ (s.trackFinish e).rsp = s.rsp ∧
      (s.trackFinish e).sas = s.sas ∧ (s.trackFinish e).oq = s.oq ∧ (s.trackFinish e).sns = s.sns ∧
      (s.trackFinish e).psc = s.psc ∧ (s.trackFinish e).link = s.link := by
  simp [State.trackFinish]

/-- What `putMonitor` keeps. -/
@[simp] theorem State.putMonitor_keeps (s : State) (t : Track) (out : Monitor × List Report) :
    (s.putMonitor t out).pending = s.pending ∧ (s.putMonitor t out).clock = s.clock ∧ (s.putMonitor t out).cfe = s.cfe ∧
      (s.putMonitor t out).crg = s.crg ∧ (s.putMonitor t out).rtr = s.rtr ∧ (s.putMonitor t out).rsp = s.rsp ∧
      (s.putMonitor t out).sas = s.sas ∧ (s.putMonitor t out).oq = s.oq ∧ (s.putMonitor t out).sns = s.sns ∧
      (s.putMonitor t out).psc = s.psc ∧ (s.putMonitor t out).link = s.link := by
  simp [State.putMonitor]

/-- What `levelSide` keeps. -/
@[simp] theorem State.levelSide_keeps (s : State) (x : Side) (n : Nat) (y : PerTrack Int) :
    (s.levelSide x n y).pending = s.pending ∧ (s.levelSide x n y).clock = s.clock ∧ (s.levelSide x n y).cfe = s.cfe ∧
      (s.levelSide x n y).crg = s.crg ∧ (s.levelSide x n y).rtr = s.rtr ∧ (s.levelSide x n y).rsp = s.rsp ∧
      (s.levelSide x n y).sas = s.sas ∧ (s.levelSide x n y).oq = s.oq ∧ (s.levelSide x n y).sns = s.sns ∧
      (s.levelSide x n y).psc.state = s.psc.state ∧ (s.levelSide x n y).psc.cause = s.psc.cause ∧
      (s.levelSide x n y).psc.startPending = s.psc.startPending ∧ (s.levelSide x n y).psc.armed = s.psc.armed ∧
      (s.levelSide x n y).psc.stored = s.psc.stored ∧ (s.levelSide x n y).psc.pass = s.psc.pass ∧
      (s.levelSide x n y).psc.nominal = s.psc.nominal ∧ (s.levelSide x n y).psc.coefficients = s.psc.coefficients ∧
      (s.levelSide x n y).link = s.link := by
  unfold State.levelSide
  simp only []
  (repeat' split) <;> simp

/-- What `levelGroup` keeps. -/
@[simp] theorem State.levelGroup_keeps (s : State) (n : Nat) (y : PerTrack Int) :
    (s.levelGroup n y).pending = s.pending ∧ (s.levelGroup n y).clock = s.clock ∧ (s.levelGroup n y).cfe = s.cfe ∧
      (s.levelGroup n y).crg = s.crg ∧ (s.levelGroup n y).rtr = s.rtr ∧ (s.levelGroup n y).rsp = s.rsp ∧
      (s.levelGroup n y).sas = s.sas ∧ (s.levelGroup n y).oq = s.oq ∧ (s.levelGroup n y).sns = s.sns ∧
      (s.levelGroup n y).psc.state = s.psc.state ∧ (s.levelGroup n y).psc.cause = s.psc.cause ∧
      (s.levelGroup n y).psc.startPending = s.psc.startPending ∧ (s.levelGroup n y).psc.armed = s.psc.armed ∧
      (s.levelGroup n y).psc.stored = s.psc.stored ∧ (s.levelGroup n y).psc.pass = s.psc.pass ∧
      (s.levelGroup n y).psc.nominal = s.psc.nominal ∧ (s.levelGroup n y).psc.coefficients = s.psc.coefficients ∧
      (s.levelGroup n y).link = s.link := by
  simp [State.levelGroup]

/-- What `levelFinish` keeps. -/
@[simp] theorem State.levelFinish_keeps (s : State) (e : Nat) :
    (s.levelFinish e).pending = s.pending ∧ (s.levelFinish e).clock = s.clock ∧ (s.levelFinish e).cfe = s.cfe ∧
      (s.levelFinish e).crg = s.crg ∧ (s.levelFinish e).rtr = s.rtr ∧ (s.levelFinish e).rsp = s.rsp ∧
      (s.levelFinish e).sas = s.sas ∧ (s.levelFinish e).oq = s.oq ∧ (s.levelFinish e).sns = s.sns ∧
      (s.levelFinish e).psc = s.psc ∧ (s.levelFinish e).link = s.link := by
  unfold State.levelFinish
  exact ⟨foldl_keeps (keep := State.pending) (fun t b => by simp) _ _,
    foldl_keeps (keep := State.clock) (fun t b => by simp) _ _,
    foldl_keeps (keep := State.cfe) (fun t b => by simp) _ _,
    foldl_keeps (keep := State.crg) (fun t b => by simp) _ _,
    foldl_keeps (keep := State.rtr) (fun t b => by simp) _ _,
    foldl_keeps (keep := State.rsp) (fun t b => by simp) _ _,
    foldl_keeps (keep := State.sas) (fun t b => by simp) _ _,
    foldl_keeps (keep := State.oq) (fun t b => by simp) _ _,
    foldl_keeps (keep := State.sns) (fun t b => by simp) _ _,
    foldl_keeps (keep := State.psc) (fun t b => by simp) _ _,
    foldl_keeps (keep := State.link) (fun t b => by simp) _ _⟩

/-- What `levelAbort` keeps. -/
@[simp] theorem State.levelAbort_keeps (s : State) :
    (s.levelAbort).pending = s.pending ∧ (s.levelAbort).clock = s.clock ∧ (s.levelAbort).cfe = s.cfe ∧
      (s.levelAbort).crg = s.crg ∧ (s.levelAbort).rtr = s.rtr ∧ (s.levelAbort).rsp = s.rsp ∧ (s.levelAbort).sas = s.sas ∧
      (s.levelAbort).oq = s.oq ∧ (s.levelAbort).sns = s.sns ∧ (s.levelAbort).psc = s.psc ∧ (s.levelAbort).link = s.link := by
  unfold State.levelAbort
  exact ⟨foldl_keeps (keep := State.pending) (fun t b => by simp) _ _,
    foldl_keeps (keep := State.clock) (fun t b => by simp) _ _,
    foldl_keeps (keep := State.cfe) (fun t b => by simp) _ _,
    foldl_keeps (keep := State.crg) (fun t b => by simp) _ _,
    foldl_keeps (keep := State.rtr) (fun t b => by simp) _ _,
    foldl_keeps (keep := State.rsp) (fun t b => by simp) _ _,
    foldl_keeps (keep := State.sas) (fun t b => by simp) _ _,
    foldl_keeps (keep := State.oq) (fun t b => by simp) _ _,
    foldl_keeps (keep := State.sns) (fun t b => by simp) _ _,
    foldl_keeps (keep := State.psc) (fun t b => by simp) _ _,
    foldl_keeps (keep := State.link) (fun t b => by simp) _ _⟩

/-- What `completeBlock` keeps. -/
@[simp] theorem State.completeBlock_keeps (s : State) (i : Fin 8) :
    (s.completeBlock i).pending = s.pending ∧ (s.completeBlock i).clock = s.clock ∧ (s.completeBlock i).cfe = s.cfe ∧
      (s.completeBlock i).crg = s.crg ∧ (s.completeBlock i).rtr = s.rtr ∧ (s.completeBlock i).lvm = s.lvm ∧
      (s.completeBlock i).dfl = s.dfl ∧ (s.completeBlock i).rsp = s.rsp ∧ (s.completeBlock i).sns = s.sns ∧
      (s.completeBlock i).psc = s.psc ∧ (s.completeBlock i).link = s.link ∧ (s.completeBlock i).notices = s.notices := by
  unfold State.completeBlock
  (repeat' split) <;> simp

/-- What `addSlot` keeps. -/
@[simp] theorem State.addSlot_keeps (s : State) (i : Fin 8) (b : List Byte) (n : Nat) (f : FlagSet) :
    (s.addSlot i b n f).pending = s.pending ∧ (s.addSlot i b n f).clock = s.clock ∧ (s.addSlot i b n f).cfe = s.cfe ∧
      (s.addSlot i b n f).crg = s.crg ∧ (s.addSlot i b n f).rtr = s.rtr ∧ (s.addSlot i b n f).lvm = s.lvm ∧
      (s.addSlot i b n f).dfl = s.dfl ∧ (s.addSlot i b n f).rsp = s.rsp ∧ (s.addSlot i b n f).sns = s.sns ∧
      (s.addSlot i b n f).psc = s.psc ∧ (s.addSlot i b n f).link = s.link ∧ (s.addSlot i b n f).notices = s.notices := by
  unfold State.addSlot
  simp only []
  split <;> simp

/-- What `endMark` keeps. -/
@[simp] theorem State.endMark_keeps (s : State) (i : Fin 8) :
    (s.endMark i).pending = s.pending ∧ (s.endMark i).clock = s.clock ∧ (s.endMark i).cfe = s.cfe ∧
      (s.endMark i).crg = s.crg ∧ (s.endMark i).rtr = s.rtr ∧ (s.endMark i).lvm = s.lvm ∧ (s.endMark i).dfl = s.dfl ∧
      (s.endMark i).rsp = s.rsp ∧ (s.endMark i).sns = s.sns ∧ (s.endMark i).psc = s.psc ∧ (s.endMark i).link = s.link ∧
      (s.endMark i).notices = s.notices := by
  unfold State.endMark
  (repeat' split) <;> simp

/-- What `endMarks` keeps. -/
@[simp] theorem State.endMarks_keeps (s : State) (is : List (Fin 8)) :
    (s.endMarks is).pending = s.pending ∧ (s.endMarks is).clock = s.clock ∧ (s.endMarks is).cfe = s.cfe ∧
      (s.endMarks is).crg = s.crg ∧ (s.endMarks is).rtr = s.rtr ∧ (s.endMarks is).lvm = s.lvm ∧
      (s.endMarks is).dfl = s.dfl ∧ (s.endMarks is).rsp = s.rsp ∧ (s.endMarks is).sns = s.sns ∧
      (s.endMarks is).psc = s.psc ∧ (s.endMarks is).link = s.link ∧ (s.endMarks is).notices = s.notices := by
  unfold State.endMarks
  exact ⟨foldl_keeps (keep := State.pending) (fun t b => by simp) _ _,
    foldl_keeps (keep := State.clock) (fun t b => by simp) _ _,
    foldl_keeps (keep := State.cfe) (fun t b => by simp) _ _,
    foldl_keeps (keep := State.crg) (fun t b => by simp) _ _,
    foldl_keeps (keep := State.rtr) (fun t b => by simp) _ _,
    foldl_keeps (keep := State.lvm) (fun t b => by simp) _ _,
    foldl_keeps (keep := State.dfl) (fun t b => by simp) _ _,
    foldl_keeps (keep := State.rsp) (fun t b => by simp) _ _,
    foldl_keeps (keep := State.sns) (fun t b => by simp) _ _,
    foldl_keeps (keep := State.psc) (fun t b => by simp) _ _,
    foldl_keeps (keep := State.link) (fun t b => by simp) _ _,
    foldl_keeps (keep := State.notices) (fun t b => by simp) _ _⟩

/-- What `grantSlot` keeps. -/
@[simp] theorem State.grantSlot_keeps (s : State) :
    (s.grantSlot).pending = s.pending ∧ (s.grantSlot).clock = s.clock ∧ (s.grantSlot).cfe = s.cfe ∧
      (s.grantSlot).crg = s.crg ∧ (s.grantSlot).rtr = s.rtr ∧ (s.grantSlot).lvm = s.lvm ∧ (s.grantSlot).dfl = s.dfl ∧
      (s.grantSlot).rsp = s.rsp ∧ (s.grantSlot).sns = s.sns ∧ (s.grantSlot).psc = s.psc ∧ (s.grantSlot).link = s.link ∧
      (s.grantSlot).notices = s.notices := by
  unfold State.grantSlot
  (repeat' split) <;> simp

/-- What `closeStreamLoss` keeps. -/
@[simp] theorem State.closeStreamLoss_keeps (s : State) (i : Fin 8) :
    (s.closeStreamLoss i).pending = s.pending ∧ (s.closeStreamLoss i).clock = s.clock ∧ (s.closeStreamLoss i).cfe = s.cfe ∧
      (s.closeStreamLoss i).crg.rings = s.crg.rings ∧ (s.closeStreamLoss i).crg.w = s.crg.w ∧
      (s.closeStreamLoss i).crg.e = s.crg.e ∧ (s.closeStreamLoss i).crg.sideConsumer = s.crg.sideConsumer ∧
      (s.closeStreamLoss i).crg.streamConsumer = s.crg.streamConsumer ∧
      (s.closeStreamLoss i).crg.sideLost = s.crg.sideLost ∧ (s.closeStreamLoss i).rtr = s.rtr ∧
      (s.closeStreamLoss i).lvm = s.lvm ∧ (s.closeStreamLoss i).rsp = s.rsp ∧ (s.closeStreamLoss i).sas = s.sas ∧
      (s.closeStreamLoss i).oq = s.oq ∧ (s.closeStreamLoss i).sns = s.sns ∧ (s.closeStreamLoss i).psc = s.psc ∧
      (s.closeStreamLoss i).link = s.link := by
  unfold State.closeStreamLoss
  (repeat' split) <;> simp

/-- What `closeSideLoss` keeps. -/
@[simp] theorem State.closeSideLoss_keeps (s : State) (x : Side) :
    (s.closeSideLoss x).pending = s.pending ∧ (s.closeSideLoss x).clock = s.clock ∧ (s.closeSideLoss x).cfe = s.cfe ∧
      (s.closeSideLoss x).crg.rings = s.crg.rings ∧ (s.closeSideLoss x).crg.w = s.crg.w ∧
      (s.closeSideLoss x).crg.e = s.crg.e ∧ (s.closeSideLoss x).crg.sideConsumer = s.crg.sideConsumer ∧
      (s.closeSideLoss x).crg.streamConsumer = s.crg.streamConsumer ∧
      (s.closeSideLoss x).crg.streamLost = s.crg.streamLost ∧ (s.closeSideLoss x).rtr = s.rtr ∧
      (s.closeSideLoss x).lvm = s.lvm ∧ (s.closeSideLoss x).rsp = s.rsp ∧ (s.closeSideLoss x).sas = s.sas ∧
      (s.closeSideLoss x).oq = s.oq ∧ (s.closeSideLoss x).sns = s.sns ∧ (s.closeSideLoss x).psc = s.psc ∧
      (s.closeSideLoss x).link = s.link := by
  unfold State.closeSideLoss
  (repeat' split) <;> simp

/-- What `closeLosses` keeps. -/
@[simp] theorem State.closeLosses_keeps (s : State) :
    (s.closeLosses).pending = s.pending ∧ (s.closeLosses).clock = s.clock ∧ (s.closeLosses).cfe = s.cfe ∧
      (s.closeLosses).crg.rings = s.crg.rings ∧ (s.closeLosses).crg.w = s.crg.w ∧ (s.closeLosses).crg.e = s.crg.e ∧
      (s.closeLosses).crg.sideConsumer = s.crg.sideConsumer ∧ (s.closeLosses).crg.streamConsumer = s.crg.streamConsumer ∧
      (s.closeLosses).rtr = s.rtr ∧ (s.closeLosses).lvm = s.lvm ∧ (s.closeLosses).rsp = s.rsp ∧
      (s.closeLosses).sas = s.sas ∧ (s.closeLosses).oq = s.oq ∧ (s.closeLosses).sns = s.sns ∧ (s.closeLosses).psc = s.psc ∧
      (s.closeLosses).link = s.link := by
  unfold State.closeLosses
  exact ⟨(foldl_keeps (keep := State.pending) (fun t b => by simp) _ _).trans (foldl_keeps (keep := State.pending) (fun t b => by simp) _ _),
    (foldl_keeps (keep := State.clock) (fun t b => by simp) _ _).trans (foldl_keeps (keep := State.clock) (fun t b => by simp) _ _),
    (foldl_keeps (keep := State.cfe) (fun t b => by simp) _ _).trans (foldl_keeps (keep := State.cfe) (fun t b => by simp) _ _),
    (foldl_keeps (keep := fun t => t.crg.rings) (fun t b => by simp) _ _).trans (foldl_keeps (keep := fun t => t.crg.rings) (fun t b => by simp) _ _),
    (foldl_keeps (keep := fun t => t.crg.w) (fun t b => by simp) _ _).trans (foldl_keeps (keep := fun t => t.crg.w) (fun t b => by simp) _ _),
    (foldl_keeps (keep := fun t => t.crg.e) (fun t b => by simp) _ _).trans (foldl_keeps (keep := fun t => t.crg.e) (fun t b => by simp) _ _),
    (foldl_keeps (keep := fun t => t.crg.sideConsumer) (fun t b => by simp) _ _).trans (foldl_keeps (keep := fun t => t.crg.sideConsumer) (fun t b => by simp) _ _),
    (foldl_keeps (keep := fun t => t.crg.streamConsumer) (fun t b => by simp) _ _).trans (foldl_keeps (keep := fun t => t.crg.streamConsumer) (fun t b => by simp) _ _),
    (foldl_keeps (keep := State.rtr) (fun t b => by simp) _ _).trans (foldl_keeps (keep := State.rtr) (fun t b => by simp) _ _),
    (foldl_keeps (keep := State.lvm) (fun t b => by simp) _ _).trans (foldl_keeps (keep := State.lvm) (fun t b => by simp) _ _),
    (foldl_keeps (keep := State.rsp) (fun t b => by simp) _ _).trans (foldl_keeps (keep := State.rsp) (fun t b => by simp) _ _),
    (foldl_keeps (keep := State.sas) (fun t b => by simp) _ _).trans (foldl_keeps (keep := State.sas) (fun t b => by simp) _ _),
    (foldl_keeps (keep := State.oq) (fun t b => by simp) _ _).trans (foldl_keeps (keep := State.oq) (fun t b => by simp) _ _),
    (foldl_keeps (keep := State.sns) (fun t b => by simp) _ _).trans (foldl_keeps (keep := State.sns) (fun t b => by simp) _ _),
    (foldl_keeps (keep := State.psc) (fun t b => by simp) _ _).trans (foldl_keeps (keep := State.psc) (fun t b => by simp) _ _),
    (foldl_keeps (keep := State.link) (fun t b => by simp) _ _).trans (foldl_keeps (keep := State.link) (fun t b => by simp) _ _)⟩

/-- What `takeGroup` keeps. -/
@[simp] theorem State.takeGroup_keeps (s : State) (i : Fin 8) (ts : TrackSet) :
    (s.takeGroup i ts).pending = s.pending ∧ (s.takeGroup i ts).clock = s.clock ∧ (s.takeGroup i ts).cfe = s.cfe ∧
      (s.takeGroup i ts).crg.rings = s.crg.rings ∧ (s.takeGroup i ts).crg.w = s.crg.w ∧ (s.takeGroup i ts).crg.e = s.crg.e ∧
      (s.takeGroup i ts).crg.sideConsumer = s.crg.sideConsumer ∧
      (s.takeGroup i ts).crg.streamConsumer = s.crg.streamConsumer ∧ (s.takeGroup i ts).crg.sideLost = s.crg.sideLost ∧
      (s.takeGroup i ts).rtr = s.rtr ∧ (s.takeGroup i ts).lvm = s.lvm ∧ (s.takeGroup i ts).rsp = s.rsp ∧
      (s.takeGroup i ts).sns = s.sns ∧ (s.takeGroup i ts).psc = s.psc ∧ (s.takeGroup i ts).link = s.link := by
  unfold State.takeGroup
  simp only []
  (repeat' split) <;> simp

/-- What `finishResampler` keeps. -/
@[simp] theorem State.finishResampler_keeps (s : State) (x : Side) :
    (s.finishResampler x).pending = s.pending ∧ (s.finishResampler x).clock = s.clock ∧ (s.finishResampler x).cfe = s.cfe ∧
      (s.finishResampler x).crg = s.crg ∧ (s.finishResampler x).rtr = s.rtr ∧ (s.finishResampler x).lvm = s.lvm ∧
      (s.finishResampler x).dfl = s.dfl ∧ (s.finishResampler x).sns = s.sns ∧ (s.finishResampler x).psc = s.psc ∧
      (s.finishResampler x).link = s.link ∧ (s.finishResampler x).notices = s.notices := by
  simp [State.finishResampler]

/-- What `advanceSide` keeps. -/
@[simp] theorem State.advanceSide_keeps (s : State) (x : Side) (n : Nat) :
    (s.advanceSide x n).pending = s.pending ∧ (s.advanceSide x n).clock = s.clock ∧ (s.advanceSide x n).cfe = s.cfe ∧
      (s.advanceSide x n).crg.rings = s.crg.rings ∧ (s.advanceSide x n).crg.w = s.crg.w ∧
      (s.advanceSide x n).crg.e = s.crg.e ∧ (s.advanceSide x n).crg.sideConsumer = s.crg.sideConsumer ∧
      (s.advanceSide x n).crg.streamConsumer = s.crg.streamConsumer ∧
      (s.advanceSide x n).crg.streamLost = s.crg.streamLost ∧ (s.advanceSide x n).rtr = s.rtr ∧
      (s.advanceSide x n).lvm = s.lvm ∧ (s.advanceSide x n).sns = s.sns ∧ (s.advanceSide x n).psc = s.psc ∧
      (s.advanceSide x n).link = s.link := by
  unfold State.advanceSide
  simp only []
  split <;> simp

/-- What `takeSkewCues` keeps. -/
@[simp] theorem State.takeSkewCues_keeps (s : State) (x : Side) (i : Nat) :
    (s.takeCues (skewDue x i) i applySkewCue).pending = s.pending ∧
      (s.takeCues (skewDue x i) i applySkewCue).clock = s.clock ∧ (s.takeCues (skewDue x i) i applySkewCue).cfe = s.cfe ∧
      (s.takeCues (skewDue x i) i applySkewCue).crg = s.crg ∧ (s.takeCues (skewDue x i) i applySkewCue).rtr = s.rtr ∧
      (s.takeCues (skewDue x i) i applySkewCue).lvm = s.lvm ∧ (s.takeCues (skewDue x i) i applySkewCue).dfl = s.dfl ∧
      (s.takeCues (skewDue x i) i applySkewCue).sas = s.sas ∧ (s.takeCues (skewDue x i) i applySkewCue).oq = s.oq ∧
      (s.takeCues (skewDue x i) i applySkewCue).sns = s.sns ∧
      (s.takeCues (skewDue x i) i applySkewCue).psc.state = s.psc.state ∧
      (s.takeCues (skewDue x i) i applySkewCue).psc.cause = s.psc.cause ∧
      (s.takeCues (skewDue x i) i applySkewCue).psc.startPending = s.psc.startPending ∧
      (s.takeCues (skewDue x i) i applySkewCue).psc.armed = s.psc.armed ∧
      (s.takeCues (skewDue x i) i applySkewCue).psc.stored = s.psc.stored ∧
      (s.takeCues (skewDue x i) i applySkewCue).psc.pass = s.psc.pass ∧
      (s.takeCues (skewDue x i) i applySkewCue).psc.nominal = s.psc.nominal ∧
      (s.takeCues (skewDue x i) i applySkewCue).psc.coefficients = s.psc.coefficients ∧
      (s.takeCues (skewDue x i) i applySkewCue).link = s.link := by
  unfold State.takeCues
  exact ⟨(foldl_keeps (keep := State.pending) (fun t c => by simp [applySkewCue]; split <;> rfl) _ _).trans rfl,
    (foldl_keeps (keep := State.clock) (fun t c => by simp [applySkewCue]; split <;> rfl) _ _).trans rfl,
    (foldl_keeps (keep := State.cfe) (fun t c => by simp [applySkewCue]; split <;> rfl) _ _).trans rfl,
    (foldl_keeps (keep := State.crg) (fun t c => by simp [applySkewCue]; split <;> rfl) _ _).trans rfl,
    (foldl_keeps (keep := State.rtr) (fun t c => by simp [applySkewCue]; split <;> rfl) _ _).trans rfl,
    (foldl_keeps (keep := State.lvm) (fun t c => by simp [applySkewCue]; split <;> rfl) _ _).trans rfl,
    (foldl_keeps (keep := State.dfl) (fun t c => by simp [applySkewCue]; split <;> rfl) _ _).trans rfl,
    (foldl_keeps (keep := State.sas) (fun t c => by simp [applySkewCue]; split <;> rfl) _ _).trans rfl,
    (foldl_keeps (keep := State.oq) (fun t c => by simp [applySkewCue]; split <;> rfl) _ _).trans rfl,
    (foldl_keeps (keep := State.sns) (fun t c => by simp [applySkewCue]; split <;> rfl) _ _).trans rfl,
    (foldl_keeps (keep := fun t => t.psc.state) (fun t c => by simp [applySkewCue]; split <;> rfl) _ _).trans rfl,
    (foldl_keeps (keep := fun t => t.psc.cause) (fun t c => by simp [applySkewCue]; split <;> rfl) _ _).trans rfl,
    (foldl_keeps (keep := fun t => t.psc.startPending) (fun t c => by simp [applySkewCue]; split <;> rfl) _ _).trans rfl,
    (foldl_keeps (keep := fun t => t.psc.armed) (fun t c => by simp [applySkewCue]; split <;> rfl) _ _).trans rfl,
    (foldl_keeps (keep := fun t => t.psc.stored) (fun t c => by simp [applySkewCue]; split <;> rfl) _ _).trans rfl,
    (foldl_keeps (keep := fun t => t.psc.pass) (fun t c => by simp [applySkewCue]; split <;> rfl) _ _).trans rfl,
    (foldl_keeps (keep := fun t => t.psc.nominal) (fun t c => by simp [applySkewCue]; split <;> rfl) _ _).trans rfl,
    (foldl_keeps (keep := fun t => t.psc.coefficients) (fun t c => by simp [applySkewCue]; split <;> rfl) _ _).trans rfl,
    (foldl_keeps (keep := State.link) (fun t c => by simp [applySkewCue]; split <;> rfl) _ _).trans rfl⟩

/-- What `giveFrames` keeps. -/
@[simp] theorem State.giveFrames_keeps (s : State) (f : Frame) (is : List (Fin 8)) :
    (is.foldl (State.giveFrame f) s).pending = s.pending ∧ (is.foldl (State.giveFrame f) s).clock = s.clock ∧
      (is.foldl (State.giveFrame f) s).cfe = s.cfe ∧ (is.foldl (State.giveFrame f) s).crg = s.crg ∧
      (is.foldl (State.giveFrame f) s).rtr = s.rtr ∧ (is.foldl (State.giveFrame f) s).lvm = s.lvm ∧
      (is.foldl (State.giveFrame f) s).dfl = s.dfl ∧ (is.foldl (State.giveFrame f) s).rsp = s.rsp ∧
      (is.foldl (State.giveFrame f) s).sns = s.sns ∧ (is.foldl (State.giveFrame f) s).psc = s.psc ∧
      (is.foldl (State.giveFrame f) s).link = s.link ∧ (is.foldl (State.giveFrame f) s).notices = s.notices := by
  exact ⟨foldl_keeps (keep := State.pending) (fun t b => by unfold State.giveFrame; simp only []; split <;> simp) _ _,
    foldl_keeps (keep := State.clock) (fun t b => by unfold State.giveFrame; simp only []; split <;> simp) _ _,
    foldl_keeps (keep := State.cfe) (fun t b => by unfold State.giveFrame; simp only []; split <;> simp) _ _,
    foldl_keeps (keep := State.crg) (fun t b => by unfold State.giveFrame; simp only []; split <;> simp) _ _,
    foldl_keeps (keep := State.rtr) (fun t b => by unfold State.giveFrame; simp only []; split <;> simp) _ _,
    foldl_keeps (keep := State.lvm) (fun t b => by unfold State.giveFrame; simp only []; split <;> simp) _ _,
    foldl_keeps (keep := State.dfl) (fun t b => by unfold State.giveFrame; simp only []; split <;> simp) _ _,
    foldl_keeps (keep := State.rsp) (fun t b => by unfold State.giveFrame; simp only []; split <;> simp) _ _,
    foldl_keeps (keep := State.sns) (fun t b => by unfold State.giveFrame; simp only []; split <;> simp) _ _,
    foldl_keeps (keep := State.psc) (fun t b => by unfold State.giveFrame; simp only []; split <;> simp) _ _,
    foldl_keeps (keep := State.link) (fun t b => by unfold State.giveFrame; simp only []; split <;> simp) _ _,
    foldl_keeps (keep := State.notices) (fun t b => by unfold State.giveFrame; simp only []; split <;> simp) _ _⟩

/-- What `frame` keeps. -/
@[simp] theorem State.frame_keeps (s : State) (x : Side) :
    (s.frame x).pending = s.pending ∧ (s.frame x).clock = s.clock ∧ (s.frame x).cfe = s.cfe ∧
      (s.frame x).crg.rings = s.crg.rings ∧ (s.frame x).crg.w = s.crg.w ∧ (s.frame x).crg.e = s.crg.e ∧
      (s.frame x).crg.sideConsumer = s.crg.sideConsumer ∧ (s.frame x).crg.streamConsumer = s.crg.streamConsumer ∧
      (s.frame x).crg.streamLost = s.crg.streamLost ∧ (s.frame x).rtr = s.rtr ∧ (s.frame x).lvm = s.lvm ∧
      (s.frame x).sns = s.sns ∧ (s.frame x).psc.state = s.psc.state ∧ (s.frame x).psc.cause = s.psc.cause ∧
      (s.frame x).psc.startPending = s.psc.startPending ∧ (s.frame x).psc.armed = s.psc.armed ∧
      (s.frame x).psc.stored = s.psc.stored ∧ (s.frame x).psc.pass = s.psc.pass ∧ (s.frame x).psc.nominal = s.psc.nominal ∧
      (s.frame x).psc.coefficients = s.psc.coefficients ∧ (s.frame x).link = s.link := by
  unfold State.frame
  simp only []
  split <;> simp

/-- What `drainSide` keeps. -/
@[simp] theorem State.drainSide_keeps (s : State) (x : Side) (e : Nat) :
    (s.drainSide x e).pending = s.pending ∧ (s.drainSide x e).clock = s.clock ∧ (s.drainSide x e).cfe = s.cfe ∧
      (s.drainSide x e).crg = s.crg ∧ (s.drainSide x e).rtr = s.rtr ∧ (s.drainSide x e).lvm = s.lvm ∧
      (s.drainSide x e).dfl = s.dfl ∧ (s.drainSide x e).sns = s.sns ∧ (s.drainSide x e).psc = s.psc ∧
      (s.drainSide x e).link = s.link ∧ (s.drainSide x e).notices = s.notices := by
  unfold State.drainSide
  (repeat' split) <;> simp

/-! ### Grants of the output queue

A block sealed on completion, a frame, a group taken and an end mark leave the slots granted to waiting streams as they stand (spec/08
R128). -/

@[simp] theorem State.completeBlock_granted (s : State) (i : Fin 8) : (s.completeBlock i).oq.granted = s.oq.granted := by
  unfold State.completeBlock
  split <;> simp

@[simp] theorem State.addSlot_granted (s : State) (i : Fin 8) (b : List Byte) (n : Nat) (f : FlagSet) :
    (s.addSlot i b n f).oq.granted = s.oq.granted := by
  unfold State.addSlot
  simp only []
  split <;> simp

@[simp] theorem State.endMark_granted (s : State) (i : Fin 8) : (s.endMark i).oq.granted = s.oq.granted := by
  unfold State.endMark
  (repeat' split) <;> simp

@[simp] theorem State.endMarks_granted (s : State) (is : List (Fin 8)) : (s.endMarks is).oq.granted = s.oq.granted :=
  foldl_keeps (keep := fun t => t.oq.granted) (fun t b => by simp) _ _

@[simp] theorem State.finishResampler_granted (s : State) (x : Side) : (s.finishResampler x).oq.granted = s.oq.granted := by
  simp [State.finishResampler]

@[simp] theorem State.drainSide_granted (s : State) (x : Side) (e : Nat) : (s.drainSide x e).oq.granted = s.oq.granted := by
  unfold State.drainSide
  (repeat' split) <;> simp

@[simp] theorem State.advanceSide_granted (s : State) (x : Side) (n : Nat) : (s.advanceSide x n).oq.granted = s.oq.granted := by
  unfold State.advanceSide
  simp only []
  split <;> simp

@[simp] theorem State.giveFrames_granted (s : State) (f : Frame) (is : List (Fin 8)) :
    (is.foldl (State.giveFrame f) s).oq.granted = s.oq.granted :=
  foldl_keeps (keep := fun t => t.oq.granted) (fun t b => by unfold State.giveFrame; simp only []; split <;> simp) _ _

@[simp] theorem State.takeGroup_granted (s : State) (i : Fin 8) (ts : TrackSet) : (s.takeGroup i ts).oq.granted = s.oq.granted := by
  unfold State.takeGroup
  simp only []
  (repeat' split) <;> simp

@[simp] theorem State.frame_granted (s : State) (x : Side) : (s.frame x).oq.granted = s.oq.granted := by
  unfold State.frame
  simp only []
  split <;> simp

/-- The stream next to be granted a slot holds none yet, so no stream is granted two. -/
theorem State.nextGrantee_not_granted {s : State} {i : Fin 8} (h : s.nextGrantee = some i) : i ∉ s.oq.granted := by
  simpa using List.find?_some h

/-- A removal keeps the granted streams distinct. -/
theorem State.freeSlot_nodup {s : State} (h : s.oq.granted.Nodup) : s.freeSlot.oq.granted.Nodup := by
  simp only [State.freeSlot_granted]
  cases hg : s.nextGrantee with
  | none => simpa using h
  | some i =>
    refine List.nodup_append.2 ⟨h, by simp, fun a ha b hb => ?_⟩
    simp only [Option.toList_some, List.mem_singleton] at hb
    exact fun e => s.nextGrantee_not_granted hg (hb ▸ e ▸ ha)

/-- A slot grant uses at most the oldest grant, and adds none. -/
theorem State.grantSlot_granted (s : State) :
    s.grantSlot.oq.granted = s.oq.granted ∨ s.grantSlot.oq.granted = s.oq.granted.tail := by
  unfold State.grantSlot
  (repeat' split) <;> simp

/-- What `jumpSide` keeps. -/
@[simp] theorem State.jumpSide_keeps (s : State) (x : Side) :
    (s.jumpSide x).pending = s.pending ∧ (s.jumpSide x).clock = s.clock ∧ (s.jumpSide x).cfe = s.cfe ∧
      (s.jumpSide x).crg.rings = s.crg.rings ∧ (s.jumpSide x).crg.w = s.crg.w ∧ (s.jumpSide x).crg.e = s.crg.e ∧
      (s.jumpSide x).crg.sideConsumer = s.crg.sideConsumer ∧ (s.jumpSide x).crg.streamConsumer = s.crg.streamConsumer ∧
      (s.jumpSide x).crg.streamLost = s.crg.streamLost ∧ (s.jumpSide x).rtr = s.rtr ∧ (s.jumpSide x).lvm = s.lvm ∧
      (s.jumpSide x).sas = s.sas ∧ (s.jumpSide x).oq = s.oq ∧ (s.jumpSide x).sns = s.sns ∧ (s.jumpSide x).psc = s.psc ∧
      (s.jumpSide x).link = s.link := by
  simp [State.jumpSide]

/-- What `checkSide` keeps. -/
@[simp] theorem State.checkSide_keeps (s : State) (x : Side) :
    (s.checkSide x).pending = s.pending ∧ (s.checkSide x).clock = s.clock ∧ (s.checkSide x).cfe = s.cfe ∧
      (s.checkSide x).crg.rings = s.crg.rings ∧ (s.checkSide x).crg.w = s.crg.w ∧ (s.checkSide x).crg.e = s.crg.e ∧
      (s.checkSide x).crg.sideConsumer = s.crg.sideConsumer ∧ (s.checkSide x).crg.streamConsumer = s.crg.streamConsumer ∧
      (s.checkSide x).crg.streamLost = s.crg.streamLost ∧ (s.checkSide x).rtr = s.rtr ∧ (s.checkSide x).lvm = s.lvm ∧
      (s.checkSide x).sas = s.sas ∧ (s.checkSide x).oq = s.oq ∧ (s.checkSide x).sns = s.sns ∧ (s.checkSide x).psc = s.psc ∧
      (s.checkSide x).link = s.link := by
  unfold State.checkSide
  (repeat' split) <;> simp

/-- What `jumpStream` keeps. -/
@[simp] theorem State.jumpStream_keeps (s : State) (i : Fin 8) (ts : TrackSet) :
    (s.jumpStream i ts).pending = s.pending ∧ (s.jumpStream i ts).clock = s.clock ∧ (s.jumpStream i ts).cfe = s.cfe ∧
      (s.jumpStream i ts).crg.rings = s.crg.rings ∧ (s.jumpStream i ts).crg.w = s.crg.w ∧
      (s.jumpStream i ts).crg.e = s.crg.e ∧ (s.jumpStream i ts).crg.sideConsumer = s.crg.sideConsumer ∧
      (s.jumpStream i ts).crg.streamConsumer = s.crg.streamConsumer ∧ (s.jumpStream i ts).crg.sideLost = s.crg.sideLost ∧
      (s.jumpStream i ts).rtr = s.rtr ∧ (s.jumpStream i ts).lvm = s.lvm ∧ (s.jumpStream i ts).rsp = s.rsp ∧
      (s.jumpStream i ts).oq = s.oq ∧ (s.jumpStream i ts).sns = s.sns ∧ (s.jumpStream i ts).psc = s.psc ∧
      (s.jumpStream i ts).link = s.link := by
  simp [State.jumpStream]

/-- What `checkStream` keeps. -/
@[simp] theorem State.checkStream_keeps (s : State) (i : Fin 8) :
    (s.checkStream i).pending = s.pending ∧ (s.checkStream i).clock = s.clock ∧ (s.checkStream i).cfe = s.cfe ∧
      (s.checkStream i).crg.rings = s.crg.rings ∧ (s.checkStream i).crg.w = s.crg.w ∧ (s.checkStream i).crg.e = s.crg.e ∧
      (s.checkStream i).crg.sideConsumer = s.crg.sideConsumer ∧
      (s.checkStream i).crg.streamConsumer = s.crg.streamConsumer ∧ (s.checkStream i).crg.sideLost = s.crg.sideLost ∧
      (s.checkStream i).rtr = s.rtr ∧ (s.checkStream i).lvm = s.lvm ∧ (s.checkStream i).rsp = s.rsp ∧
      (s.checkStream i).oq = s.oq ∧ (s.checkStream i).sns = s.sns ∧ (s.checkStream i).psc = s.psc ∧
      (s.checkStream i).link = s.link := by
  unfold State.checkStream
  (repeat' split) <;> simp

/-- What `overrunCheck` keeps. -/
@[simp] theorem State.overrunCheck_keeps (s : State) :
    (s.overrunCheck).pending = s.pending ∧ (s.overrunCheck).clock = s.clock ∧ (s.overrunCheck).cfe = s.cfe ∧
      (s.overrunCheck).crg.rings = s.crg.rings ∧ (s.overrunCheck).crg.w = s.crg.w ∧ (s.overrunCheck).crg.e = s.crg.e ∧
      (s.overrunCheck).crg.sideConsumer = s.crg.sideConsumer ∧ (s.overrunCheck).crg.streamConsumer = s.crg.streamConsumer ∧
      (s.overrunCheck).rtr = s.rtr ∧ (s.overrunCheck).lvm = s.lvm ∧ (s.overrunCheck).oq = s.oq ∧
      (s.overrunCheck).sns = s.sns ∧ (s.overrunCheck).psc = s.psc ∧ (s.overrunCheck).link = s.link := by
  unfold State.overrunCheck
  exact ⟨(foldl_keeps (keep := State.pending) (fun t b => by simp) _ _).trans (foldl_keeps (keep := State.pending) (fun t b => by simp) _ _),
    (foldl_keeps (keep := State.clock) (fun t b => by simp) _ _).trans (foldl_keeps (keep := State.clock) (fun t b => by simp) _ _),
    (foldl_keeps (keep := State.cfe) (fun t b => by simp) _ _).trans (foldl_keeps (keep := State.cfe) (fun t b => by simp) _ _),
    (foldl_keeps (keep := fun t => t.crg.rings) (fun t b => by simp) _ _).trans (foldl_keeps (keep := fun t => t.crg.rings) (fun t b => by simp) _ _),
    (foldl_keeps (keep := fun t => t.crg.w) (fun t b => by simp) _ _).trans (foldl_keeps (keep := fun t => t.crg.w) (fun t b => by simp) _ _),
    (foldl_keeps (keep := fun t => t.crg.e) (fun t b => by simp) _ _).trans (foldl_keeps (keep := fun t => t.crg.e) (fun t b => by simp) _ _),
    (foldl_keeps (keep := fun t => t.crg.sideConsumer) (fun t b => by simp) _ _).trans (foldl_keeps (keep := fun t => t.crg.sideConsumer) (fun t b => by simp) _ _),
    (foldl_keeps (keep := fun t => t.crg.streamConsumer) (fun t b => by simp) _ _).trans (foldl_keeps (keep := fun t => t.crg.streamConsumer) (fun t b => by simp) _ _),
    (foldl_keeps (keep := State.rtr) (fun t b => by simp) _ _).trans (foldl_keeps (keep := State.rtr) (fun t b => by simp) _ _),
    (foldl_keeps (keep := State.lvm) (fun t b => by simp) _ _).trans (foldl_keeps (keep := State.lvm) (fun t b => by simp) _ _),
    (foldl_keeps (keep := State.oq) (fun t b => by simp) _ _).trans (foldl_keeps (keep := State.oq) (fun t b => by simp) _ _),
    (foldl_keeps (keep := State.sns) (fun t b => by simp) _ _).trans (foldl_keeps (keep := State.sns) (fun t b => by simp) _ _),
    (foldl_keeps (keep := State.psc) (fun t b => by simp) _ _).trans (foldl_keeps (keep := State.psc) (fun t b => by simp) _ _),
    (foldl_keeps (keep := State.link) (fun t b => by simp) _ _).trans (foldl_keeps (keep := State.link) (fun t b => by simp) _ _)⟩

/-- What `takeMarkCues` keeps. -/
@[simp] theorem State.takeMarkCues_keeps (s : State) (n : Nat) :
    (s.takeCues (markDue n) n (applyMarkCue n)).pending = s.pending ∧
      (s.takeCues (markDue n) n (applyMarkCue n)).clock = s.clock ∧
      (s.takeCues (markDue n) n (applyMarkCue n)).cfe = s.cfe ∧ (s.takeCues (markDue n) n (applyMarkCue n)).crg = s.crg ∧
      (s.takeCues (markDue n) n (applyMarkCue n)).rtr = s.rtr ∧ (s.takeCues (markDue n) n (applyMarkCue n)).lvm = s.lvm ∧
      (s.takeCues (markDue n) n (applyMarkCue n)).rsp = s.rsp ∧ (s.takeCues (markDue n) n (applyMarkCue n)).sas = s.sas ∧
      (s.takeCues (markDue n) n (applyMarkCue n)).oq = s.oq ∧ (s.takeCues (markDue n) n (applyMarkCue n)).sns = s.sns ∧
      (s.takeCues (markDue n) n (applyMarkCue n)).psc.state = s.psc.state ∧
      (s.takeCues (markDue n) n (applyMarkCue n)).psc.cause = s.psc.cause ∧
      (s.takeCues (markDue n) n (applyMarkCue n)).psc.startPending = s.psc.startPending ∧
      (s.takeCues (markDue n) n (applyMarkCue n)).psc.armed = s.psc.armed ∧
      (s.takeCues (markDue n) n (applyMarkCue n)).psc.stored = s.psc.stored ∧
      (s.takeCues (markDue n) n (applyMarkCue n)).psc.pass = s.psc.pass ∧
      (s.takeCues (markDue n) n (applyMarkCue n)).psc.nominal = s.psc.nominal ∧
      (s.takeCues (markDue n) n (applyMarkCue n)).psc.coefficients = s.psc.coefficients ∧
      (s.takeCues (markDue n) n (applyMarkCue n)).link = s.link := by
  unfold State.takeCues
  exact ⟨(foldl_keeps (keep := State.pending) (fun t c => by simp [applyMarkCue]; split <;> simp) _ _).trans rfl,
    (foldl_keeps (keep := State.clock) (fun t c => by simp [applyMarkCue]; split <;> simp) _ _).trans rfl,
    (foldl_keeps (keep := State.cfe) (fun t c => by simp [applyMarkCue]; split <;> simp) _ _).trans rfl,
    (foldl_keeps (keep := State.crg) (fun t c => by simp [applyMarkCue]; split <;> simp) _ _).trans rfl,
    (foldl_keeps (keep := State.rtr) (fun t c => by simp [applyMarkCue]; split <;> simp) _ _).trans rfl,
    (foldl_keeps (keep := State.lvm) (fun t c => by simp [applyMarkCue]; split <;> simp) _ _).trans rfl,
    (foldl_keeps (keep := State.rsp) (fun t c => by simp [applyMarkCue]; split <;> simp) _ _).trans rfl,
    (foldl_keeps (keep := State.sas) (fun t c => by simp [applyMarkCue]; split <;> simp) _ _).trans rfl,
    (foldl_keeps (keep := State.oq) (fun t c => by simp [applyMarkCue]; split <;> simp) _ _).trans rfl,
    (foldl_keeps (keep := State.sns) (fun t c => by simp [applyMarkCue]; split <;> simp) _ _).trans rfl,
    (foldl_keeps (keep := fun t => t.psc.state) (fun t c => by simp [applyMarkCue]; split <;> simp) _ _).trans rfl,
    (foldl_keeps (keep := fun t => t.psc.cause) (fun t c => by simp [applyMarkCue]; split <;> simp) _ _).trans rfl,
    (foldl_keeps (keep := fun t => t.psc.startPending) (fun t c => by simp [applyMarkCue]; split <;> simp) _ _).trans rfl,
    (foldl_keeps (keep := fun t => t.psc.armed) (fun t c => by simp [applyMarkCue]; split <;> simp) _ _).trans rfl,
    (foldl_keeps (keep := fun t => t.psc.stored) (fun t c => by simp [applyMarkCue]; split <;> simp) _ _).trans rfl,
    (foldl_keeps (keep := fun t => t.psc.pass) (fun t c => by simp [applyMarkCue]; split <;> simp) _ _).trans rfl,
    (foldl_keeps (keep := fun t => t.psc.nominal) (fun t c => by simp [applyMarkCue]; split <;> simp) _ _).trans rfl,
    (foldl_keeps (keep := fun t => t.psc.coefficients) (fun t c => by simp [applyMarkCue]; split <;> simp) _ _).trans rfl,
    (foldl_keeps (keep := State.link) (fun t c => by simp [applyMarkCue]; split <;> simp) _ _).trans rfl⟩

/-- What `group` keeps. -/
@[simp] theorem State.group_keeps (s : State) (g : WideGroup) :
    (s.group g).pending = s.pending ∧ (s.group g).clock = s.clock ∧ (s.group g).cfe.converter = s.cfe.converter ∧
      (s.group g).cfe.settleCount = s.cfe.settleCount ∧ (s.group g).cfe.watched = s.cfe.watched ∧
      (s.group g).crg.e = s.crg.e ∧ (s.group g).crg.sideConsumer = s.crg.sideConsumer ∧
      (s.group g).crg.streamConsumer = s.crg.streamConsumer ∧ (s.group g).oq = s.oq ∧ (s.group g).sns = s.sns ∧
      (s.group g).psc.state = s.psc.state ∧ (s.group g).psc.cause = s.psc.cause ∧
      (s.group g).psc.startPending = s.psc.startPending ∧ (s.group g).psc.armed = s.psc.armed ∧
      (s.group g).psc.stored = s.psc.stored ∧ (s.group g).psc.pass = s.psc.pass ∧ (s.group g).psc.nominal = s.psc.nominal ∧
      (s.group g).psc.coefficients = s.psc.coefficients ∧ (s.group g).link = s.link := by
  simp [State.group, State.captureGroup, State.writeRings]

/-- What `boundaryZero` keeps. -/
@[simp] theorem State.boundaryZero_keeps (s : State) :
    (s.boundaryZero).pending = s.pending ∧ (s.boundaryZero).clock = s.clock ∧ (s.boundaryZero).cfe = s.cfe ∧
      (s.boundaryZero).crg = s.crg ∧ (s.boundaryZero).dfl = s.dfl ∧ (s.boundaryZero).rsp = s.rsp ∧
      (s.boundaryZero).sas = s.sas ∧ (s.boundaryZero).oq = s.oq ∧ (s.boundaryZero).sns = s.sns ∧
      (s.boundaryZero).psc.state = s.psc.state ∧ (s.boundaryZero).psc.cause = s.psc.cause ∧
      (s.boundaryZero).psc.startPending = s.psc.startPending ∧ (s.boundaryZero).psc.armed = s.psc.armed ∧
      (s.boundaryZero).psc.stored = s.psc.stored ∧ (s.boundaryZero).psc.pass = s.psc.pass ∧
      (s.boundaryZero).psc.nominal = s.psc.nominal ∧ (s.boundaryZero).psc.coefficients = s.psc.coefficients ∧
      (s.boundaryZero).link = s.link := by
  unfold State.boundaryZero
  exact ⟨(foldl_keeps (keep := State.pending) (fun t b => by split <;> simp) _ _).trans (foldl_keeps (keep := State.pending) (fun t b => by split <;> simp) _ _),
    (foldl_keeps (keep := State.clock) (fun t b => by split <;> simp) _ _).trans (foldl_keeps (keep := State.clock) (fun t b => by split <;> simp) _ _),
    (foldl_keeps (keep := State.cfe) (fun t b => by split <;> simp) _ _).trans (foldl_keeps (keep := State.cfe) (fun t b => by split <;> simp) _ _),
    (foldl_keeps (keep := State.crg) (fun t b => by split <;> simp) _ _).trans (foldl_keeps (keep := State.crg) (fun t b => by split <;> simp) _ _),
    (foldl_keeps (keep := State.dfl) (fun t b => by split <;> simp) _ _).trans (foldl_keeps (keep := State.dfl) (fun t b => by split <;> simp) _ _),
    (foldl_keeps (keep := State.rsp) (fun t b => by split <;> simp) _ _).trans (foldl_keeps (keep := State.rsp) (fun t b => by split <;> simp) _ _),
    (foldl_keeps (keep := State.sas) (fun t b => by split <;> simp) _ _).trans (foldl_keeps (keep := State.sas) (fun t b => by split <;> simp) _ _),
    (foldl_keeps (keep := State.oq) (fun t b => by split <;> simp) _ _).trans (foldl_keeps (keep := State.oq) (fun t b => by split <;> simp) _ _),
    (foldl_keeps (keep := State.sns) (fun t b => by split <;> simp) _ _).trans (foldl_keeps (keep := State.sns) (fun t b => by split <;> simp) _ _),
    (foldl_keeps (keep := fun t => t.psc.state) (fun t b => by split <;> simp) _ _).trans (foldl_keeps (keep := fun t => t.psc.state) (fun t b => by split <;> simp) _ _),
    (foldl_keeps (keep := fun t => t.psc.cause) (fun t b => by split <;> simp) _ _).trans (foldl_keeps (keep := fun t => t.psc.cause) (fun t b => by split <;> simp) _ _),
    (foldl_keeps (keep := fun t => t.psc.startPending) (fun t b => by split <;> simp) _ _).trans (foldl_keeps (keep := fun t => t.psc.startPending) (fun t b => by split <;> simp) _ _),
    (foldl_keeps (keep := fun t => t.psc.armed) (fun t b => by split <;> simp) _ _).trans (foldl_keeps (keep := fun t => t.psc.armed) (fun t b => by split <;> simp) _ _),
    (foldl_keeps (keep := fun t => t.psc.stored) (fun t b => by split <;> simp) _ _).trans (foldl_keeps (keep := fun t => t.psc.stored) (fun t b => by split <;> simp) _ _),
    (foldl_keeps (keep := fun t => t.psc.pass) (fun t b => by split <;> simp) _ _).trans (foldl_keeps (keep := fun t => t.psc.pass) (fun t b => by split <;> simp) _ _),
    (foldl_keeps (keep := fun t => t.psc.nominal) (fun t b => by split <;> simp) _ _).trans (foldl_keeps (keep := fun t => t.psc.nominal) (fun t b => by split <;> simp) _ _),
    (foldl_keeps (keep := fun t => t.psc.coefficients) (fun t b => by split <;> simp) _ _).trans (foldl_keeps (keep := fun t => t.psc.coefficients) (fun t b => by split <;> simp) _ _),
    (foldl_keeps (keep := State.link) (fun t b => by split <;> simp) _ _).trans (foldl_keeps (keep := State.link) (fun t b => by split <;> simp) _ _)⟩

/-- What `enterRunning` keeps. -/
@[simp] theorem State.enterRunning_keeps (s : State) :
    (s.enterRunning).pending = s.pending ∧ (s.enterRunning).clock = s.clock ∧ (s.enterRunning).cfe.watched = s.cfe.watched ∧
      (s.enterRunning).cfe.clip = s.cfe.clip ∧ (s.enterRunning).crg = s.crg ∧ (s.enterRunning).dfl = s.dfl ∧
      (s.enterRunning).oq = s.oq ∧ (s.enterRunning).psc.cause = s.psc.cause ∧ (s.enterRunning).psc.armed = s.psc.armed ∧
      (s.enterRunning).psc.stored = s.psc.stored ∧ (s.enterRunning).psc.pass = s.psc.pass ∧
      (s.enterRunning).psc.nominal = s.psc.nominal ∧ (s.enterRunning).psc.coefficients = s.psc.coefficients ∧
      (s.enterRunning).link = s.link := by
  simp [State.enterRunning, State.beginCapture]

/-- What `startRequest` keeps. -/
@[simp] theorem State.startRequest_keeps (s : State) :
    (s.startRequest).pending = s.pending ∧ (s.startRequest).clock = s.clock ∧ (s.startRequest).cfe.watched = s.cfe.watched ∧
      (s.startRequest).cfe.clip = s.cfe.clip ∧ (s.startRequest).crg = s.crg ∧ (s.startRequest).dfl = s.dfl ∧
      (s.startRequest).oq = s.oq ∧ (s.startRequest).psc.cause = s.psc.cause ∧ (s.startRequest).psc.armed = s.psc.armed ∧
      (s.startRequest).psc.stored = s.psc.stored ∧ (s.startRequest).psc.pass = s.psc.pass ∧
      (s.startRequest).psc.nominal = s.psc.nominal ∧ (s.startRequest).psc.coefficients = s.psc.coefficients ∧
      (s.startRequest).link = s.link := by
  unfold State.startRequest
  (repeat' split) <;> simp

/-- What `settleEnd` keeps. -/
@[simp] theorem State.settleEnd_keeps (s : State) :
    (s.settleEnd).pending = s.pending ∧ (s.settleEnd).clock = s.clock ∧ (s.settleEnd).cfe.watched = s.cfe.watched ∧
      (s.settleEnd).cfe.clip = s.cfe.clip ∧ (s.settleEnd).crg = s.crg ∧ (s.settleEnd).dfl = s.dfl ∧
      (s.settleEnd).oq = s.oq ∧ (s.settleEnd).psc.cause = s.psc.cause ∧ (s.settleEnd).psc.armed = s.psc.armed ∧
      (s.settleEnd).psc.stored = s.psc.stored ∧ (s.settleEnd).psc.pass = s.psc.pass ∧
      (s.settleEnd).psc.nominal = s.psc.nominal ∧ (s.settleEnd).psc.coefficients = s.psc.coefficients ∧
      (s.settleEnd).link = s.link := by
  unfold State.settleEnd
  simp only []
  split <;> simp

/-- What `stopCapture` keeps. -/
@[simp] theorem State.stopCapture_keeps (s : State) :
    (s.stopCapture).pending = s.pending ∧ (s.stopCapture).clock = s.clock ∧
      (s.stopCapture).cfe.wideCount = s.cfe.wideCount ∧ (s.stopCapture).cfe.watched = s.cfe.watched ∧
      (s.stopCapture).crg.rings = s.crg.rings ∧ (s.stopCapture).crg.w = s.crg.w ∧
      (s.stopCapture).crg.sideConsumer = s.crg.sideConsumer ∧ (s.stopCapture).crg.streamConsumer = s.crg.streamConsumer ∧
      (s.stopCapture).rtr = s.rtr ∧ (s.stopCapture).lvm = s.lvm ∧ (s.stopCapture).rsp = s.rsp ∧
      (s.stopCapture).sas = s.sas ∧ (s.stopCapture).oq = s.oq ∧ (s.stopCapture).sns.lines = s.sns.lines ∧
      (s.stopCapture).sns.reference = s.sns.reference ∧ (s.stopCapture).sns.tacho = s.sns.tacho ∧
      (s.stopCapture).sns.tLast = s.sns.tLast ∧ (s.stopCapture).sns.fresh = s.sns.fresh ∧
      (s.stopCapture).sns.stalled = s.sns.stalled ∧ (s.stopCapture).psc = s.psc ∧ (s.stopCapture).link = s.link := by
  simp [State.stopCapture, SenseUnit.endCapture]

/-- What `endCapture` keeps. -/
@[simp] theorem State.endCapture_keeps (s : State) (c : EndCause) :
    (s.endCapture c).pending = s.pending ∧ (s.endCapture c).clock = s.clock ∧
      (s.endCapture c).cfe.wideCount = s.cfe.wideCount ∧ (s.endCapture c).cfe.watched = s.cfe.watched ∧
      (s.endCapture c).crg.rings = s.crg.rings ∧ (s.endCapture c).crg.w = s.crg.w ∧
      (s.endCapture c).crg.sideConsumer = s.crg.sideConsumer ∧ (s.endCapture c).crg.streamConsumer = s.crg.streamConsumer ∧
      (s.endCapture c).sns.lines = s.sns.lines ∧ (s.endCapture c).sns.reference = s.sns.reference ∧
      (s.endCapture c).sns.tacho = s.sns.tacho ∧ (s.endCapture c).sns.tLast = s.sns.tLast ∧
      (s.endCapture c).sns.fresh = s.sns.fresh ∧ (s.endCapture c).sns.stalled = s.sns.stalled ∧
      (s.endCapture c).psc.startPending = s.psc.startPending ∧ (s.endCapture c).psc.armed = s.psc.armed ∧
      (s.endCapture c).psc.stored = s.psc.stored ∧ (s.endCapture c).psc.pass = s.psc.pass ∧
      (s.endCapture c).psc.nominal = s.psc.nominal ∧ (s.endCapture c).psc.coefficients = s.psc.coefficients ∧
      (s.endCapture c).psc.cues = s.psc.cues ∧ (s.endCapture c).link = s.link := by
  simp [State.endCapture]

/-- What `enterEnded` keeps. -/
@[simp] theorem State.enterEnded_keeps (s : State) (c : Option EndCause) :
    (s.enterEnded c).pending = s.pending ∧ (s.enterEnded c).clock = s.clock ∧ (s.enterEnded c).cfe = s.cfe ∧
      (s.enterEnded c).crg = s.crg ∧ (s.enterEnded c).lvm = s.lvm ∧ (s.enterEnded c).sas = s.sas ∧
      (s.enterEnded c).oq = s.oq ∧ (s.enterEnded c).sns = s.sns ∧ (s.enterEnded c).psc.armed = s.psc.armed ∧
      (s.enterEnded c).psc.stored = s.psc.stored ∧ (s.enterEnded c).psc.pass = s.psc.pass ∧
      (s.enterEnded c).psc.nominal = s.psc.nominal ∧ (s.enterEnded c).psc.coefficients = s.psc.coefficients ∧
      (s.enterEnded c).link = s.link := by
  simp [State.enterEnded]

/-- What `completeDraining` keeps. -/
@[simp] theorem State.completeDraining_keeps (s : State) :
    (s.completeDraining).pending = s.pending ∧ (s.completeDraining).clock = s.clock ∧ (s.completeDraining).cfe = s.cfe ∧
      (s.completeDraining).crg = s.crg ∧ (s.completeDraining).lvm = s.lvm ∧ (s.completeDraining).sas = s.sas ∧
      (s.completeDraining).oq = s.oq ∧ (s.completeDraining).sns = s.sns ∧ (s.completeDraining).psc.armed = s.psc.armed ∧
      (s.completeDraining).psc.stored = s.psc.stored ∧ (s.completeDraining).psc.pass = s.psc.pass ∧
      (s.completeDraining).psc.nominal = s.psc.nominal ∧ (s.completeDraining).psc.coefficients = s.psc.coefficients ∧
      (s.completeDraining).link = s.link := by
  simp [State.completeDraining]

/-- What `abortRunning` keeps. -/
@[simp] theorem State.abortRunning_keeps (s : State) :
    (s.abortRunning).pending = s.pending ∧ (s.abortRunning).clock = s.clock ∧
      (s.abortRunning).cfe.wideCount = s.cfe.wideCount ∧ (s.abortRunning).cfe.watched = s.cfe.watched ∧
      (s.abortRunning).crg.rings = s.crg.rings ∧ (s.abortRunning).crg.w = s.crg.w ∧
      (s.abortRunning).crg.sideConsumer = s.crg.sideConsumer ∧ (s.abortRunning).crg.streamConsumer = s.crg.streamConsumer ∧
      (s.abortRunning).oq.blocks = s.oq.blocks ∧ (s.abortRunning).oq.granted = [] ∧ (s.abortRunning).sns.lines = s.sns.lines ∧
      (s.abortRunning).sns.reference = s.sns.reference ∧ (s.abortRunning).sns.tacho = s.sns.tacho ∧
      (s.abortRunning).sns.tLast = s.sns.tLast ∧ (s.abortRunning).sns.fresh = s.sns.fresh ∧
      (s.abortRunning).sns.stalled = s.sns.stalled ∧ (s.abortRunning).psc.armed = s.psc.armed ∧
      (s.abortRunning).psc.stored = s.psc.stored ∧ (s.abortRunning).psc.pass = s.psc.pass ∧
      (s.abortRunning).psc.nominal = s.psc.nominal ∧ (s.abortRunning).psc.coefficients = s.psc.coefficients ∧
      (s.abortRunning).link = s.link := by
  simp [State.abortRunning]

/-- What `abortDraining` keeps. -/
@[simp] theorem State.abortDraining_keeps (s : State) :
    (s.abortDraining).pending = s.pending ∧ (s.abortDraining).clock = s.clock ∧ (s.abortDraining).cfe = s.cfe ∧
      (s.abortDraining).crg = s.crg ∧ (s.abortDraining).lvm = s.lvm ∧
      (s.abortDraining).oq.blocks = s.oq.blocks ∧ (s.abortDraining).oq.granted = [] ∧
      (s.abortDraining).sns = s.sns ∧ (s.abortDraining).psc.armed = s.psc.armed ∧
      (s.abortDraining).psc.stored = s.psc.stored ∧ (s.abortDraining).psc.pass = s.psc.pass ∧
      (s.abortDraining).psc.nominal = s.psc.nominal ∧ (s.abortDraining).psc.coefficients = s.psc.coefficients ∧
      (s.abortDraining).link = s.link := by
  simp [State.abortDraining]

/-- What `returnToIdle` keeps. -/
@[simp] theorem State.returnToIdle_keeps (s : State) :
    (s.returnToIdle).pending = s.pending ∧ (s.returnToIdle).clock = s.clock ∧
      (s.returnToIdle).cfe.wideCount = s.cfe.wideCount ∧ (s.returnToIdle).cfe.watched = s.cfe.watched ∧
      (s.returnToIdle).cfe.clip = s.cfe.clip ∧ (s.returnToIdle).crg = s.crg ∧ (s.returnToIdle).rtr = s.rtr ∧
      (s.returnToIdle).lvm = s.lvm ∧ (s.returnToIdle).dfl = s.dfl ∧ (s.returnToIdle).rsp = s.rsp ∧
      (s.returnToIdle).sas = s.sas ∧ (s.returnToIdle).oq = s.oq ∧ (s.returnToIdle).sns = s.sns ∧
      (s.returnToIdle).psc.cause = s.psc.cause ∧ (s.returnToIdle).psc.armed = s.psc.armed ∧
      (s.returnToIdle).psc.stored = s.psc.stored ∧ (s.returnToIdle).psc.pass = s.psc.pass ∧
      (s.returnToIdle).psc.nominal = s.psc.nominal ∧ (s.returnToIdle).psc.coefficients = s.psc.coefficients ∧
      (s.returnToIdle).link = s.link := by
  simp [State.returnToIdle]

/-- What `produceSplice` keeps. -/
@[simp] theorem State.produceSplice_keeps (s : State) (u : Bool) :
    (s.produceSplice u).pending = s.pending ∧ (s.produceSplice u).clock = s.clock ∧ (s.produceSplice u).cfe = s.cfe ∧
      (s.produceSplice u).crg = s.crg ∧ (s.produceSplice u).rtr = s.rtr ∧ (s.produceSplice u).lvm = s.lvm ∧
      (s.produceSplice u).rsp = s.rsp ∧ (s.produceSplice u).sas = s.sas ∧ (s.produceSplice u).oq = s.oq ∧
      (s.produceSplice u).sns = s.sns ∧ (s.produceSplice u).psc = s.psc ∧ (s.produceSplice u).link = s.link := by
  simp [State.produceSplice]

/-- What `produceSplices` keeps. -/
@[simp] theorem State.produceSplices_keeps (s : State) (u : Bool) (n : Nat) :
    (s.produceSplices u n).pending = s.pending ∧ (s.produceSplices u n).clock = s.clock ∧
      (s.produceSplices u n).cfe = s.cfe ∧ (s.produceSplices u n).crg = s.crg ∧ (s.produceSplices u n).rtr = s.rtr ∧
      (s.produceSplices u n).lvm = s.lvm ∧ (s.produceSplices u n).rsp = s.rsp ∧ (s.produceSplices u n).sas = s.sas ∧
      (s.produceSplices u n).oq = s.oq ∧ (s.produceSplices u n).sns = s.sns ∧ (s.produceSplices u n).psc = s.psc ∧
      (s.produceSplices u n).link = s.link := by
  induction n generalizing s with
  | zero => simp [State.produceSplices]
  | succ n ih => simp [State.produceSplices, ih]

/-- What `spliceEvent` keeps. -/
@[simp] theorem State.spliceEvent_keeps (s : State) :
    (s.spliceEvent).pending = s.pending ∧ (s.spliceEvent).clock = s.clock ∧ (s.spliceEvent).cfe = s.cfe ∧
      (s.spliceEvent).crg = s.crg ∧ (s.spliceEvent).rtr = s.rtr ∧ (s.spliceEvent).lvm = s.lvm ∧
      (s.spliceEvent).rsp = s.rsp ∧ (s.spliceEvent).sas = s.sas ∧ (s.spliceEvent).oq = s.oq ∧
      (s.spliceEvent).sns.lines = s.sns.lines ∧ (s.spliceEvent).sns.reference = s.sns.reference ∧
      (s.spliceEvent).sns.tacho = s.sns.tacho ∧ (s.spliceEvent).sns.tLast = s.sns.tLast ∧
      (s.spliceEvent).sns.fresh = s.sns.fresh ∧ (s.spliceEvent).sns.stalled = s.sns.stalled ∧
      (s.spliceEvent).sns.timer = s.sns.timer ∧ (s.spliceEvent).sns.discarded = s.sns.discarded ∧
      (s.spliceEvent).psc = s.psc ∧ (s.spliceEvent).link = s.link := by
  unfold State.spliceEvent
  (repeat' split) <;> simp

/-- What `markEvent` keeps. -/
@[simp] theorem State.markEvent_keeps (s : State) :
    (s.markEvent).pending = s.pending ∧ (s.markEvent).clock = s.clock ∧ (s.markEvent).cfe = s.cfe ∧
      (s.markEvent).crg = s.crg ∧ (s.markEvent).rtr = s.rtr ∧ (s.markEvent).lvm = s.lvm ∧ (s.markEvent).rsp = s.rsp ∧
      (s.markEvent).sas = s.sas ∧ (s.markEvent).oq = s.oq ∧ (s.markEvent).sns = s.sns ∧ (s.markEvent).psc = s.psc ∧
      (s.markEvent).link = s.link := by
  simp [State.markEvent]

/-- What `tripLine` keeps. -/
@[simp] theorem State.tripLine_keeps (s : State) (i : Fin 6) :
    (s.tripLine i).pending = s.pending ∧ (s.tripLine i).clock = s.clock ∧ (s.tripLine i).cfe = s.cfe ∧
      (s.tripLine i).crg = s.crg ∧ (s.tripLine i).rtr = s.rtr ∧ (s.tripLine i).lvm = s.lvm ∧ (s.tripLine i).dfl = s.dfl ∧
      (s.tripLine i).rsp = s.rsp ∧ (s.tripLine i).sas = s.sas ∧ (s.tripLine i).oq = s.oq ∧
      (s.tripLine i).sns.reference = s.sns.reference ∧ (s.tripLine i).sns.tacho = s.sns.tacho ∧
      (s.tripLine i).sns.tLast = s.sns.tLast ∧ (s.tripLine i).sns.fresh = s.sns.fresh ∧
      (s.tripLine i).sns.stalled = s.sns.stalled ∧ (s.tripLine i).sns.timer = s.sns.timer ∧
      (s.tripLine i).sns.splices = s.sns.splices ∧ (s.tripLine i).sns.discarded = s.sns.discarded ∧
      (s.tripLine i).psc = s.psc ∧ (s.tripLine i).link = s.link := by
  unfold State.tripLine
  simp only []
  (repeat' split) <;> simp

/-- What `tachoPulse` keeps. -/
@[simp] theorem State.tachoPulse_keeps (s : State) :
    (s.tachoPulse).pending = s.pending ∧ (s.tachoPulse).clock = s.clock ∧ (s.tachoPulse).cfe = s.cfe ∧
      (s.tachoPulse).crg = s.crg ∧ (s.tachoPulse).rtr = s.rtr ∧ (s.tachoPulse).lvm = s.lvm ∧ (s.tachoPulse).rsp = s.rsp ∧
      (s.tachoPulse).sas = s.sas ∧ (s.tachoPulse).oq = s.oq ∧ (s.tachoPulse).sns.lines = s.sns.lines ∧
      (s.tachoPulse).sns.discarded = s.sns.discarded ∧ (s.tachoPulse).psc = s.psc ∧ (s.tachoPulse).link = s.link := by
  simp [State.tachoPulse, SenseUnit.countDown]
  unfold SenseUnit.measure
  split <;> simp

/-- What `tachoEvent` keeps. -/
@[simp] theorem State.tachoEvent_keeps (s : State) (i : Fin 6) :
    (s.tachoEvent i).pending = s.pending ∧ (s.tachoEvent i).clock = s.clock ∧ (s.tachoEvent i).cfe = s.cfe ∧
      (s.tachoEvent i).crg = s.crg ∧ (s.tachoEvent i).rtr = s.rtr ∧ (s.tachoEvent i).lvm = s.lvm ∧
      (s.tachoEvent i).rsp = s.rsp ∧ (s.tachoEvent i).sas = s.sas ∧ (s.tachoEvent i).oq = s.oq ∧
      (s.tachoEvent i).sns.lines = s.sns.lines ∧ (s.tachoEvent i).sns.discarded = s.sns.discarded ∧
      (s.tachoEvent i).psc = s.psc ∧ (s.tachoEvent i).link = s.link := by
  unfold State.tachoEvent
  split <;> simp [SenseUnit.endStall]

/-- What `declareStall` keeps. -/
@[simp] theorem State.declareStall_keeps (s : State) :
    (s.declareStall).pending = s.pending ∧ (s.declareStall).clock = s.clock ∧ (s.declareStall).cfe.watched = s.cfe.watched ∧
      (s.declareStall).crg.rings = s.crg.rings ∧ (s.declareStall).crg.w = s.crg.w ∧
      (s.declareStall).crg.sideConsumer = s.crg.sideConsumer ∧ (s.declareStall).crg.streamConsumer = s.crg.streamConsumer ∧
      (s.declareStall).psc.armed = s.psc.armed ∧ (s.declareStall).psc.stored = s.psc.stored ∧
      (s.declareStall).psc.pass = s.psc.pass ∧ (s.declareStall).psc.nominal = s.psc.nominal ∧
      (s.declareStall).psc.coefficients = s.psc.coefficients ∧ (s.declareStall).link = s.link := by
  unfold State.declareStall
  simp only []
  (repeat' split) <;> simp

/-- What `lineAction` keeps. -/
@[simp] theorem State.lineAction_keeps (s : State) (i : Fin 6) :
    (s.lineAction i).pending = s.pending ∧ (s.lineAction i).clock = s.clock ∧ (s.lineAction i).cfe.watched = s.cfe.watched ∧
      (s.lineAction i).crg.rings = s.crg.rings ∧ (s.lineAction i).crg.w = s.crg.w ∧
      (s.lineAction i).crg.sideConsumer = s.crg.sideConsumer ∧ (s.lineAction i).crg.streamConsumer = s.crg.streamConsumer ∧
      (s.lineAction i).psc.armed = s.psc.armed ∧ (s.lineAction i).psc.stored = s.psc.stored ∧
      (s.lineAction i).psc.pass = s.psc.pass ∧ (s.lineAction i).psc.nominal = s.psc.nominal ∧
      (s.lineAction i).psc.coefficients = s.psc.coefficients ∧ (s.lineAction i).link = s.link := by
  unfold State.lineAction
  (repeat' split) <;> simp

/-- What `acceptChange` keeps. -/
@[simp] theorem State.acceptChange_keeps (s : State) (i : Fin 6) :
    (s.acceptChange i).pending = s.pending ∧ (s.acceptChange i).clock = s.clock ∧
      (s.acceptChange i).cfe.watched = s.cfe.watched ∧ (s.acceptChange i).crg.rings = s.crg.rings ∧
      (s.acceptChange i).crg.w = s.crg.w ∧ (s.acceptChange i).crg.sideConsumer = s.crg.sideConsumer ∧
      (s.acceptChange i).crg.streamConsumer = s.crg.streamConsumer ∧ (s.acceptChange i).psc.armed = s.psc.armed ∧
      (s.acceptChange i).psc.stored = s.psc.stored ∧ (s.acceptChange i).psc.pass = s.psc.pass ∧
      (s.acceptChange i).psc.nominal = s.psc.nominal ∧ (s.acceptChange i).psc.coefficients = s.psc.coefficients ∧
      (s.acceptChange i).link = s.link := by
  unfold State.acceptChange
  simp only []
  split <;> simp

/-- What `sampleLine` keeps. -/
@[simp] theorem State.sampleLine_keeps (s : State) (i : Fin 6) (b : Bool) :
    (s.sampleLine i b).pending = s.pending ∧ (s.sampleLine i b).clock = s.clock ∧
      (s.sampleLine i b).cfe.watched = s.cfe.watched ∧ (s.sampleLine i b).crg.rings = s.crg.rings ∧
      (s.sampleLine i b).crg.w = s.crg.w ∧ (s.sampleLine i b).crg.sideConsumer = s.crg.sideConsumer ∧
      (s.sampleLine i b).crg.streamConsumer = s.crg.streamConsumer ∧ (s.sampleLine i b).psc.armed = s.psc.armed ∧
      (s.sampleLine i b).psc.stored = s.psc.stored ∧ (s.sampleLine i b).psc.pass = s.psc.pass ∧
      (s.sampleLine i b).psc.nominal = s.psc.nominal ∧ (s.sampleLine i b).psc.coefficients = s.psc.coefficients ∧
      (s.sampleLine i b).link = s.link := by
  unfold State.sampleLine
  simp only []
  (repeat' split) <;> simp

/-- What `tickLines` keeps. -/
@[simp] theorem State.tickLines_keeps (s : State) :
    (s.tickLines).pending = s.pending ∧ (s.tickLines).clock = s.clock ∧ (s.tickLines).cfe.watched = s.cfe.watched ∧
      (s.tickLines).crg.rings = s.crg.rings ∧ (s.tickLines).crg.w = s.crg.w ∧
      (s.tickLines).crg.sideConsumer = s.crg.sideConsumer ∧ (s.tickLines).crg.streamConsumer = s.crg.streamConsumer ∧
      (s.tickLines).psc.armed = s.psc.armed ∧ (s.tickLines).psc.stored = s.psc.stored ∧
      (s.tickLines).psc.pass = s.psc.pass ∧ (s.tickLines).psc.nominal = s.psc.nominal ∧
      (s.tickLines).psc.coefficients = s.psc.coefficients ∧ (s.tickLines).link = s.link := by
  unfold State.tickLines
  exact ⟨foldl_keeps (keep := State.pending) (fun t b => by simp) _ _,
    foldl_keeps (keep := State.clock) (fun t b => by simp) _ _,
    foldl_keeps (keep := fun t => t.cfe.watched) (fun t b => by simp) _ _,
    foldl_keeps (keep := fun t => t.crg.rings) (fun t b => by simp) _ _,
    foldl_keeps (keep := fun t => t.crg.w) (fun t b => by simp) _ _,
    foldl_keeps (keep := fun t => t.crg.sideConsumer) (fun t b => by simp) _ _,
    foldl_keeps (keep := fun t => t.crg.streamConsumer) (fun t b => by simp) _ _,
    foldl_keeps (keep := fun t => t.psc.armed) (fun t b => by simp) _ _,
    foldl_keeps (keep := fun t => t.psc.stored) (fun t b => by simp) _ _,
    foldl_keeps (keep := fun t => t.psc.pass) (fun t b => by simp) _ _,
    foldl_keeps (keep := fun t => t.psc.nominal) (fun t b => by simp) _ _,
    foldl_keeps (keep := fun t => t.psc.coefficients) (fun t b => by simp) _ _,
    foldl_keeps (keep := State.link) (fun t b => by simp) _ _⟩

/-- What `tickSense` keeps. -/
@[simp] theorem State.tickSense_keeps (s : State) :
    (s.tickSense).pending = s.pending ∧ (s.tickSense).clock = s.clock ∧ (s.tickSense).cfe.watched = s.cfe.watched ∧
      (s.tickSense).crg.rings = s.crg.rings ∧ (s.tickSense).crg.w = s.crg.w ∧
      (s.tickSense).crg.sideConsumer = s.crg.sideConsumer ∧ (s.tickSense).crg.streamConsumer = s.crg.streamConsumer ∧
      (s.tickSense).psc.armed = s.psc.armed ∧ (s.tickSense).psc.stored = s.psc.stored ∧
      (s.tickSense).psc.pass = s.psc.pass ∧ (s.tickSense).psc.nominal = s.psc.nominal ∧
      (s.tickSense).psc.coefficients = s.psc.coefficients ∧ (s.tickSense).link = s.link := by
  unfold State.tickSense
  simp only []
  (repeat' split) <;> simp

/-- What `convert` keeps. -/
@[simp] theorem State.convert_keeps (s : State) (v : PerTrack (BitVec 24)) :
    (s.convert v).pending = s.pending ∧ (s.convert v).clock = s.clock ∧ (s.convert v).cfe.watched = s.cfe.watched ∧
      (s.convert v).crg.sideConsumer = s.crg.sideConsumer ∧ (s.convert v).crg.streamConsumer = s.crg.streamConsumer ∧
      (s.convert v).psc.armed = s.psc.armed ∧ (s.convert v).psc.stored = s.psc.stored ∧
      (s.convert v).psc.pass = s.psc.pass ∧ (s.convert v).psc.nominal = s.psc.nominal ∧
      (s.convert v).psc.coefficients = s.psc.coefficients ∧ (s.convert v).link = s.link := by
  unfold State.convert
  split <;> simp

/-- What `tickConverters` keeps. -/
@[simp] theorem State.tickConverters_keeps (s : State) :
    (s.tickConverters).pending = s.pending ∧ (s.tickConverters).clock = s.clock ∧
      (s.tickConverters).cfe.watched = s.cfe.watched ∧ (s.tickConverters).crg.sideConsumer = s.crg.sideConsumer ∧
      (s.tickConverters).crg.streamConsumer = s.crg.streamConsumer ∧ (s.tickConverters).psc.armed = s.psc.armed ∧
      (s.tickConverters).psc.stored = s.psc.stored ∧ (s.tickConverters).psc.pass = s.psc.pass ∧
      (s.tickConverters).psc.nominal = s.psc.nominal ∧ (s.tickConverters).psc.coefficients = s.psc.coefficients ∧
      (s.tickConverters).link = s.link := by
  unfold State.tickConverters
  simp only []
  (repeat' split) <;> simp

/-- What `tickBlocks` keeps. -/
@[simp] theorem State.tickBlocks_keeps (s : State) :
    (s.tickBlocks).pending = s.pending ∧ (s.tickBlocks).clock = s.clock ∧ (s.tickBlocks).cfe.watched = s.cfe.watched ∧
      (s.tickBlocks).crg.sideConsumer = s.crg.sideConsumer ∧ (s.tickBlocks).crg.streamConsumer = s.crg.streamConsumer ∧
      (s.tickBlocks).psc.armed = s.psc.armed ∧ (s.tickBlocks).psc.stored = s.psc.stored ∧
      (s.tickBlocks).psc.pass = s.psc.pass ∧ (s.tickBlocks).psc.nominal = s.psc.nominal ∧
      (s.tickBlocks).psc.coefficients = s.psc.coefficients ∧ (s.tickBlocks).link = s.link := by
  unfold State.tickBlocks
  split <;> simp

/-- What `takeDue` keeps. -/
@[simp] theorem State.takeDue_keeps (s : State) (e : DueEvent) :
    (s.takeDue e).pending = s.pending ∧ (s.takeDue e).clock = s.clock ∧ (s.takeDue e).cfe.watched = s.cfe.watched ∧
      (s.takeDue e).crg.sideConsumer = s.crg.sideConsumer ∧ (s.takeDue e).crg.streamConsumer = s.crg.streamConsumer ∧
      (s.takeDue e).psc.armed = s.psc.armed ∧ (s.takeDue e).psc.stored = s.psc.stored ∧
      (s.takeDue e).psc.pass = s.psc.pass ∧ (s.takeDue e).psc.nominal = s.psc.nominal ∧
      (s.takeDue e).psc.coefficients = s.psc.coefficients ∧ (s.takeDue e).link = s.link := by
  unfold State.takeDue
  (repeat' split) <;> simp

/-- What `wideTick` keeps. -/
@[simp] theorem State.wideTick_keeps (s : State) :
    (s.wideTick).pending = s.pending ∧ (s.wideTick).clock.lineReset = s.clock.lineReset ∧
      (s.wideTick).cfe.watched = s.cfe.watched ∧ (s.wideTick).crg.sideConsumer = s.crg.sideConsumer ∧
      (s.wideTick).crg.streamConsumer = s.crg.streamConsumer ∧ (s.wideTick).psc.armed = s.psc.armed ∧
      (s.wideTick).psc.stored = s.psc.stored ∧ (s.wideTick).psc.pass = s.psc.pass ∧
      (s.wideTick).psc.nominal = s.psc.nominal ∧ (s.wideTick).psc.coefficients = s.psc.coefficients ∧
      (s.wideTick).link = s.link := by
  simp [State.wideTick]

/-- What `idle` keeps. -/
@[simp] theorem State.idle_keeps (s : State) :
    (s.idle).pending = s.pending ∧ (s.idle).clock.lineReset = s.clock.lineReset ∧ (s.idle).cfe.watched = s.cfe.watched ∧
      (s.idle).crg.sideConsumer = s.crg.sideConsumer ∧ (s.idle).crg.streamConsumer = s.crg.streamConsumer ∧
      (s.idle).psc.armed = s.psc.armed ∧ (s.idle).psc.stored = s.psc.stored ∧ (s.idle).psc.pass = s.psc.pass ∧
      (s.idle).psc.nominal = s.psc.nominal ∧ (s.idle).psc.coefficients = s.psc.coefficients ∧ (s.idle).link = s.link := by
  unfold State.idle
  (repeat' split) <;> simp

end Sys2Proof.Machine
end

