-- ==== Sys2Proof/Laws/Pass.lean ====
section
/-! SUPPORT. What the shared operations of a pass set; what they keep stands in Laws/Frames.lean. -/

namespace Sys2Proof.Machine

/-- What ARM, RESTART make of the pass controller, the converters and the capture index. -/
theorem State.renewPass_sets (s : State) (arming : Bool) :
    (s.renewPass arming).psc.state = (if arming then .armed else .idle) ∧ (s.renewPass arming).psc.cause = none ∧
      (s.renewPass arming).psc.startPending = false ∧ (s.renewPass arming).psc.stored = s.psc.stored ∧
      (s.renewPass arming).psc.pass = s.psc.stored ∧ (s.renewPass arming).psc.cues = [] ∧
      (s.renewPass arming).cfe.converter = (if arming then .settling else .stopped) ∧
      (s.renewPass arming).cfe.settleCount = (if arming then Config.settleLength else 0) ∧
      (s.renewPass arming).cfe.gathered = [] ∧ (s.renewPass arming).crg.w = 0 ∧ (s.renewPass arming).crg.e = none ∧
      (s.renewPass arming).crg.rings = .all [] ∧ (s.renewPass arming).dfl = .empty :=
  ⟨rfl, rfl, rfl, rfl, rfl, rfl, rfl, rfl, rfl, rfl, rfl, rfl, rfl⟩

/-- What the entry into RUNNING sets at the pass controller and the converters. -/
theorem State.enterRunning_sets (s : State) :
    s.enterRunning.psc.state = .running ∧ s.enterRunning.psc.startPending = false ∧
      s.enterRunning.cfe.converter = .capturing ∧ s.enterRunning.cfe.settleCount = 0 ∧ s.enterRunning.cfe.wideCount = 0 ∧
      s.enterRunning.cfe.gathered = [] := by
  simp [State.enterRunning, State.beginCapture]

/-- What the end of capture into DRAINING sets. -/
theorem State.endCapture_sets (s : State) (c : EndCause) :
    (s.endCapture c).psc.state = .draining ∧ (s.endCapture c).psc.cause = some c ∧ (s.endCapture c).crg.e = some s.crg.w ∧
      (s.endCapture c).cfe.converter = .stopped ∧ (s.endCapture c).cfe.settleCount = 0 ∧ (s.endCapture c).cfe.gathered = [] ∧
      (s.endCapture c).sns.splices = [] ∧ (s.endCapture c).sns.timer = none ∧
      (s.endCapture c).sns.discarded = min 255 (s.sns.discarded + s.sns.splices.length) := by
  simp [State.endCapture, State.stopCapture, SenseUnit.endCapture]

/-- What the entry into ENDED sets. -/
theorem State.enterEnded_sets (s : State) (c : Option EndCause) :
    (s.enterEnded c).psc.state = .ended ∧ (s.enterEnded c).psc.cause = c ∧ (s.enterEnded c).psc.startPending = false ∧
      (s.enterEnded c).psc.cues = [] ∧ (s.enterEnded c).dfl = s.dfl.settleAll := by
  simp [State.enterEnded]

/-- What an ABORT from RUNNING sets. -/
theorem State.abortRunning_sets (s : State) :
    s.abortRunning.psc.state = .ended ∧ s.abortRunning.psc.cause = some .aborted ∧ s.abortRunning.psc.startPending = false ∧
      s.abortRunning.psc.cues = [] ∧ s.abortRunning.crg.e = some s.crg.w ∧ s.abortRunning.cfe.converter = .stopped ∧
      s.abortRunning.cfe.settleCount = 0 ∧ s.abortRunning.cfe.gathered = [] := by
  simp [State.abortRunning, State.enterEnded, State.stopCapture]

/-- What an ABORT from DRAINING sets. -/
theorem State.abortDraining_sets (s : State) :
    s.abortDraining.psc.state = .ended ∧ s.abortDraining.psc.cause = some .aborted ∧
      s.abortDraining.psc.startPending = false ∧ s.abortDraining.psc.cues = [] := by
  simp [State.abortDraining, State.enterEnded]

/-- What the completion of draining sets. -/
theorem State.completeDraining_sets (s : State) :
    s.completeDraining.psc.state = .ended ∧ s.completeDraining.psc.cause = s.psc.cause ∧
      s.completeDraining.psc.startPending = false ∧ s.completeDraining.psc.cues = [] := by
  simp [State.completeDraining, State.enterEnded]

/-- What the return from ARMED to IDLE sets. -/
theorem State.returnToIdle_sets (s : State) :
    s.returnToIdle.psc.state = .idle ∧ s.returnToIdle.psc.startPending = false ∧ s.returnToIdle.psc.cues = [] ∧
      s.returnToIdle.cfe.converter = .stopped ∧ s.returnToIdle.cfe.settleCount = 0 ∧ s.returnToIdle.cfe.gathered = [] := by
  simp [State.returnToIdle]

/-- What a group event sets at the capture index, the rings and the converters. -/
theorem State.group_sets (s : State) (g : WideGroup) :
    (s.group g).crg.w = s.crg.w + 1 ∧ (s.group g).cfe.gathered = [] ∧
      (s.group g).crg.rings =
        s.crg.rings.mapIdx fun t r => ringWrite r (s.crg.w % Config.ringSlots) ((ttaSamples g).get t) := by
  simp [State.group, State.captureGroup, State.writeRings]

/-! ### The partial final tick -/

/-- The partial final tick leaves the ring of tick records as it stands (spec/04 R58, R71). -/
@[simp] theorem Monitor.partialTick_records (m : Monitor) (e : Nat) : (m.partialTick e).records = m.records := by
  unfold Monitor.partialTick
  split
  · rfl
  · split <;> rfl

/-- Every tick but the partial final one is read from its slot (spec/04 R58, R68). -/
theorem Monitor.record_eq_tickRecord (m : Monitor) (t : Nat) (h : ∀ r, m.finalTick = some r → r.tick ≠ t) :
    m.record t = tickRecord m.records t := by
  unfold Monitor.record
  split
  · next r hr => rw [if_neg (h r hr)]
  · rfl

end Sys2Proof.Machine
end

