-- ==== Sys2Proof/Laws/Cues.lean ====
section
/-! SUPPORT. What the operations of a pass do to the cue list: they take cues out of it, and leave the rest in order. -/

namespace Sys2Proof.Machine

/-- Taking cues leaves those that are not due, when no cue's effect touches the list. -/
theorem State.takeCues_cues (s : State) (due : Cue → Bool) (o : Nat) (apply : Cue → State → State)
    (h : ∀ c t, (apply c t).psc.cues = t.psc.cues) :
    (s.takeCues due o apply).psc.cues = s.psc.cues.filter fun c => !due c := by
  unfold State.takeCues
  exact (foldl_keeps (keep := fun t => t.psc.cues) (fun t c => by simp [h]) _ _).trans rfl

theorem State.takeSourceCues_cues (s : State) (x : Side) (b : Nat) :
    (s.takeSourceCues x b).psc.cues = s.psc.cues.filter fun c => !sourceDue x b c :=
  s.takeCues_cues _ _ _ fun c t => by unfold applySourceCue; split <;> rfl

theorem State.takeLevelCues_cues (s : State) (x : Side) (b : Nat) :
    (s.takeLevelCues x b).psc.cues = s.psc.cues.filter fun c => !levelDue x b c :=
  s.takeCues_cues _ _ _ fun c t => by unfold applyLevelCue; split <;> rfl

theorem State.takeSkewCues_cues (s : State) (x : Side) (i : Nat) :
    (s.takeCues (skewDue x i) i applySkewCue).psc.cues = s.psc.cues.filter fun c => !skewDue x i c :=
  s.takeCues_cues _ _ _ fun c t => by unfold applySkewCue; split <;> rfl

theorem State.takeMarkCues_cues (s : State) (n : Nat) :
    (s.takeCues (markDue n) n (applyMarkCue n)).psc.cues = s.psc.cues.filter fun c => !markDue n c :=
  s.takeCues_cues _ _ _ fun c t => by unfold applyMarkCue; split <;> simp

/-! ### Sublists -/

theorem State.takeSourceCues_sublist (s : State) (x : Side) (b : Nat) :
    (s.takeSourceCues x b).psc.cues.Sublist s.psc.cues := by
  rw [State.takeSourceCues_cues]; exact List.filter_sublist

theorem State.takeLevelCues_sublist (s : State) (x : Side) (b : Nat) : (s.takeLevelCues x b).psc.cues.Sublist s.psc.cues := by
  rw [State.takeLevelCues_cues]; exact List.filter_sublist

theorem State.boundary_sublist (s : State) (x : Side) (n : Nat) (l r : Int) :
    (s.boundary x n l r).psc.cues.Sublist s.psc.cues := by
  simp only [State.boundary, State.putTracker_psc]
  exact (State.takeSourceCues_sublist ..).trans (by simp)

theorem State.trackSide_sublist (s : State) (x : Side) (n : Nat) (g : WideGroup) :
    (s.trackSide x n g).psc.cues.Sublist s.psc.cues := by
  unfold State.trackSide
  simp only []
  (repeat' split) <;> first | exact List.Sublist.refl _ | exact s.boundary_sublist ..

theorem State.trackGroup_sublist (s : State) (n : Nat) (g : WideGroup) : (s.trackGroup n g).psc.cues.Sublist s.psc.cues :=
  (State.trackSide_sublist ..).trans (State.trackSide_sublist ..)

theorem State.levelSide_sublist (s : State) (x : Side) (n : Nat) (y : PerTrack Int) :
    (s.levelSide x n y).psc.cues.Sublist s.psc.cues := by
  unfold State.levelSide
  simp only []
  (repeat' split) <;> first | exact List.Sublist.refl _ | (refine (State.takeLevelCues_sublist ..).trans ?_; simp) | simp

theorem State.levelGroup_sublist (s : State) (n : Nat) (y : PerTrack Int) : (s.levelGroup n y).psc.cues.Sublist s.psc.cues :=
  (State.levelSide_sublist ..).trans (State.levelSide_sublist ..)

theorem State.group_sublist (s : State) (g : WideGroup) : (s.group g).psc.cues.Sublist s.psc.cues := by
  simp only [State.group, State.captureGroup, State.testGates_psc, State.settleDefects_psc, State.advanceCapture_psc, State.clipTake_keeps]
  refine (State.levelGroup_sublist ..).trans ((State.trackGroup_sublist ..).trans ?_)
  rw [State.takeMarkCues_cues]
  exact List.filter_sublist.trans (by simp)

theorem State.frame_sublist (s : State) (x : Side) : (s.frame x).psc.cues.Sublist s.psc.cues := by
  unfold State.frame
  simp only []
  split
  · rw [State.takeSkewCues_cues]; exact List.filter_sublist
  · simp only [State.advanceSide_keeps, State.giveFrames_keeps]
    rw [State.takeSkewCues_cues]; exact List.filter_sublist

/-- A fold whose every step takes cues out takes cues out. -/
theorem foldl_sublist {β : Type} {f : State → β → State} (h : ∀ s b, (f s b).psc.cues.Sublist s.psc.cues) (l : List β)
    (s : State) : (l.foldl f s).psc.cues.Sublist s.psc.cues := by
  induction l generalizing s with
  | nil => exact List.Sublist.refl _
  | cons b l ih => exact (ih _).trans (h s b)

theorem State.boundaryZero_sublist (s : State) : s.boundaryZero.psc.cues.Sublist s.psc.cues := by
  refine (foldl_sublist (fun t x => ?_) _ _).trans (foldl_sublist (fun t x => ?_) _ _)
  · split <;> first | exact t.takeLevelCues_sublist .. | exact List.Sublist.refl _
  · split <;> first | exact t.takeSourceCues_sublist .. | exact List.Sublist.refl _

theorem State.enterRunning_sublist (s : State) : s.enterRunning.psc.cues.Sublist s.psc.cues := by
  simp only [State.enterRunning, State.testGates_psc]
  exact (State.boundaryZero_sublist _).trans (List.Sublist.refl _)

end Sys2Proof.Machine
end

