-- ==== Sys2Proof/Laws/PerInstr.lean ====
section
/-! SUPPORT. Per command: the kind code and payload of a request name the request they came from (spec/11 R168). -/

namespace Sys2Proof.Laws.RequestKind

/-- A command that is a request has a kind code of one byte, and the code with the payload names that command. -/
def Statement (i : Instr) : Prop :=
  ∀ r, i.request = some r → r.1 < 256 ∧ requestOf (BitVec.ofNat 8 r.1) r.2 = i

theorem ident (payload : List Byte) : Statement (.ident payload) := by rintro _ ⟨⟩; exact ⟨by simp, rfl⟩
theorem setSide (payload : List Byte) : Statement (.setSide payload) := by rintro _ ⟨⟩; exact ⟨by simp, rfl⟩
theorem setPass (payload : List Byte) : Statement (.setPass payload) := by rintro _ ⟨⟩; exact ⟨by simp, rfl⟩
theorem setStream (payload : List Byte) : Statement (.setStream payload) := by rintro _ ⟨⟩; exact ⟨by simp, rfl⟩
theorem setLine (payload : List Byte) : Statement (.setLine payload) := by rintro _ ⟨⟩; exact ⟨by simp, rfl⟩
theorem adjustSkew (payload : List Byte) : Statement (.adjustSkew payload) := by rintro _ ⟨⟩; exact ⟨by simp, rfl⟩
theorem readSkew (payload : List Byte) : Statement (.readSkew payload) := by rintro _ ⟨⟩; exact ⟨by simp, rfl⟩
theorem postCue (payload : List Byte) : Statement (.postCue payload) := by rintro _ ⟨⟩; exact ⟨by simp, rfl⟩
theorem dropCue (payload : List Byte) : Statement (.dropCue payload) := by rintro _ ⟨⟩; exact ⟨by simp, rfl⟩
theorem arm (payload : List Byte) : Statement (.arm payload) := by rintro _ ⟨⟩; exact ⟨by simp, rfl⟩
theorem start (payload : List Byte) : Statement (.start payload) := by rintro _ ⟨⟩; exact ⟨by simp, rfl⟩
theorem stop (payload : List Byte) : Statement (.stop payload) := by rintro _ ⟨⟩; exact ⟨by simp, rfl⟩
theorem abort (payload : List Byte) : Statement (.abort payload) := by rintro _ ⟨⟩; exact ⟨by simp, rfl⟩
theorem fetchBlock (payload : List Byte) : Statement (.fetchBlock payload) := by rintro _ ⟨⟩; exact ⟨by simp, rfl⟩
theorem fetchNotice (payload : List Byte) : Statement (.fetchNotice payload) := by rintro _ ⟨⟩; exact ⟨by simp, rfl⟩
theorem takeDefects (payload : List Byte) : Statement (.takeDefects payload) := by rintro _ ⟨⟩; exact ⟨by simp, rfl⟩
theorem readStatus (payload : List Byte) : Statement (.readStatus payload) := by rintro _ ⟨⟩; exact ⟨by simp, rfl⟩
theorem clearLines (payload : List Byte) : Statement (.clearLines payload) := by rintro _ ⟨⟩; exact ⟨by simp, rfl⟩
theorem discard (payload : List Byte) : Statement (.discard payload) := by rintro _ ⟨⟩; exact ⟨by simp, rfl⟩
theorem restart (payload : List Byte) : Statement (.restart payload) := by rintro _ ⟨⟩; exact ⟨by simp, rfl⟩
theorem badKindRequest (kind : Byte) : Statement (.badKindRequest kind) := by rintro _ ⟨⟩
theorem lengthAbove512 (kind : Byte) (length : BitVec 16) : Statement (.lengthAbove512 kind length) := by rintro _ ⟨⟩
theorem selectFall : Statement (.selectFall) := by rintro _ ⟨⟩
theorem selectRise : Statement (.selectRise) := by rintro _ ⟨⟩
theorem blockRemoval : Statement (.blockRemoval) := by rintro _ ⟨⟩
theorem noticeRemoval : Statement (.noticeRemoval) := by rintro _ ⟨⟩
theorem defectRemoval : Statement (.defectRemoval) := by rintro _ ⟨⟩
theorem restartEffect : Statement (.restartEffect) := by rintro _ ⟨⟩
theorem lineReset : Statement (.lineReset) := by rintro _ ⟨⟩
theorem resetRelease (levels : PerLine Bool) : Statement (.resetRelease levels) := by rintro _ ⟨⟩
theorem settleEnd : Statement (.settleEnd) := by rintro _ ⟨⟩
theorem groupEvent (samples : WideGroup) : Statement (.groupEvent samples) := by rintro _ ⟨⟩
theorem limitEvent : Statement (.limitEvent) := by rintro _ ⟨⟩
theorem completionOfDraining : Statement (.completionOfDraining) := by rintro _ ⟨⟩
theorem produceFrame (side : Side) : Statement (.produceFrame side) := by rintro _ ⟨⟩
theorem takeSampleGroup (stream : Fin 8) : Statement (.takeSampleGroup stream) := by rintro _ ⟨⟩
theorem slotGrant : Statement (.slotGrant) := by rintro _ ⟨⟩
theorem lineChangeAccepted (line : Fin 6) : Statement (.lineChangeAccepted line) := by rintro _ ⟨⟩
theorem stallExpiry : Statement (.stallExpiry) := by rintro _ ⟨⟩
theorem checkFailedRequest (kind : Byte) : Statement (.checkFailedRequest kind) := by rintro _ ⟨⟩

end Sys2Proof.Laws.RequestKind
end

