-- ==== Sys2Proof/Laws/Requests.lean ====
section
/-! SUPPORT. What taking a request can do: the four outcomes of the checks, and a principle for what every outcome keeps. -/

namespace Sys2Proof.Machine

variable (s : State) (kind : Byte) (n : Nat) (p : List Byte) (r : Option Status) (a : Answer)

/-- While the link port does not listen, a request has no effect. -/
theorem State.takeRequest_deaf (h : s.listening = false) : s.takeRequest kind n p r a = s := by
  simp [State.takeRequest, h]

/-- A request of the wrong length is answered BAD_LENGTH. -/
theorem State.takeRequest_length (h : s.listening = true) (hp : p.length ≠ n) :
    s.takeRequest kind n p r a = { s with link := answered kind .badLength [] } := by
  simp [State.takeRequest, h, hp, refuse, Answer.send]

/-- A request that the pass state refuses is answered with the refusal. -/
theorem State.takeRequest_refused (h : s.listening = true) (hp : p.length = n) (st : Status) :
    s.takeRequest kind n p (some st) a = { s with link := answered kind st [] } := by
  simp [State.takeRequest, h, hp, refuse, Answer.send]

/-- A request that passes every check is taken by its own rule. -/
theorem State.takeRequest_taken (h : s.listening = true) (hp : p.length = n) : s.takeRequest kind n p none a = a.send kind := by
  simp [State.takeRequest, h, hp]

/-- What the state has, what a new reply keeps and what the request's own rule has, the state after the request has. -/
theorem State.takeRequest_ind {P : State → Prop} (hs : P s) (hl : ∀ (t : State) (l : LinkPort), P t → P { t with link := l })
    (ha : P a.state) : P (s.takeRequest kind n p r a) := by
  unfold State.takeRequest
  split
  · split
    · split
      · exact hl _ _ hs
      · exact hl _ _ ha
    · exact hl _ _ hs
  · exact hs

end Sys2Proof.Machine
end

