-- ==== Sys2Proof/Laws/Store.lean ====
section
/-! SUPPORT. The addressed stores: a write keeps the canonical form, a read after a write gives the value written, and a write leaves
every other slot alone. -/

namespace Sys2Proof.Machine

variable {α : Type}

/-- Every listed slot lies above `k`. -/
def above (k : Nat) (l : List (Nat × α)) : Prop :=
  ∀ c ∈ l, k < c.1

theorem slotsRise_cons (k : Nat) (v : α) (l : List (Nat × α)) : slotsRise ((k, v) :: l) = true ↔ above k l ∧ slotsRise l = true := by
  induction l generalizing k v with
  | nil => simp [slotsRise, above]
  | cons c l ih =>
    obtain ⟨i, w⟩ := c
    simp only [slotsRise, Bool.and_eq_true, decide_eq_true_eq, ih i w]
    constructor
    · rintro ⟨hk, hi, hl⟩
      exact ⟨fun c hc => by
        rcases List.mem_cons.1 hc with rfl | hc
        · exact hk
        · exact Nat.lt_trans hk (hi c hc), hi, hl⟩
    · rintro ⟨hk, hi, hl⟩
      exact ⟨hk (i, w) (List.mem_cons_self ..), hi, hl⟩

theorem slotFind_above {k i : Nat} {l : List (Nat × α)} (h : above k l) (hi : i ≤ k) : slotFind l i = none := by
  induction l with
  | nil => rfl
  | cons c l ih =>
    have hc : k < c.1 := h c (List.mem_cons_self ..)
    have : c.1 ≠ i := by omega
    simp only [slotFind, this, if_false]
    exact ih fun d hd => h d (List.mem_cons_of_mem _ hd)

/-! ### Reading after a write -/

@[simp] theorem slotFind_slotPut_self (l : List (Nat × α)) (i : Nat) (x : α) : slotFind (slotPut l i x) i = some x := by
  induction l with
  | nil => simp [slotPut, slotFind]
  | cons c l ih =>
    obtain ⟨k, v⟩ := c
    unfold slotPut
    split
    · simp [slotFind]
    · split
      · simp [slotFind]
      · have : k ≠ i := by omega
        simp [slotFind, this, ih]

theorem slotFind_slotPut_of_ne (l : List (Nat × α)) {i j : Nat} (x : α) (h : j ≠ i) :
    slotFind (slotPut l i x) j = slotFind l j := by
  induction l with
  | nil => simp [slotPut, slotFind, Ne.symm h]
  | cons c l ih =>
    obtain ⟨k, v⟩ := c
    unfold slotPut
    split
    · simp [slotFind, Ne.symm h]
    · split
      · rename_i hk
        subst hk
        simp [slotFind, Ne.symm h]
      · by_cases hj : k = j <;> simp [slotFind, hj, ih]

theorem slotFind_slotErase_of_ne (l : List (Nat × α)) {i j : Nat} (h : j ≠ i) : slotFind (slotErase l i) j = slotFind l j := by
  induction l with
  | nil => rfl
  | cons c l ih =>
    obtain ⟨k, v⟩ := c
    unfold slotErase
    split
    · rename_i hk
      subst hk
      simp [slotFind, Ne.symm h]
    · by_cases hj : k = j <;> simp [slotFind, hj, ih]

theorem slotFind_slotErase_self {l : List (Nat × α)} (h : slotsRise l = true) (i : Nat) : slotFind (slotErase l i) i = none := by
  induction l with
  | nil => rfl
  | cons c l ih =>
    obtain ⟨k, v⟩ := c
    obtain ⟨ha, hl⟩ := (slotsRise_cons k v l).1 h
    unfold slotErase
    split
    · rename_i hk
      subst hk
      exact slotFind_above ha (Nat.le_refl _)
    · rename_i hk
      simp [slotFind, hk, ih hl]

/-! ### The canonical form -/

theorem mem_slotPut {l : List (Nat × α)} {i : Nat} {x : α} {c : Nat × α} (h : c ∈ slotPut l i x) : c = (i, x) ∨ c ∈ l := by
  induction l with
  | nil => simpa [slotPut] using h
  | cons d l ih =>
    obtain ⟨k, v⟩ := d
    unfold slotPut at h
    split at h
    · simpa using h
    · split at h
      · rcases List.mem_cons.1 h with h | h
        · exact .inl h
        · exact .inr (List.mem_cons_of_mem _ h)
      · rcases List.mem_cons.1 h with h | h
        · exact .inr (h ▸ List.mem_cons_self ..)
        · exact (ih h).imp_right (List.mem_cons_of_mem _)

theorem mem_slotErase {l : List (Nat × α)} {i : Nat} {c : Nat × α} (h : c ∈ slotErase l i) : c ∈ l := by
  induction l with
  | nil => exact h
  | cons d l ih =>
    obtain ⟨k, v⟩ := d
    unfold slotErase at h
    split at h
    · exact List.mem_cons_of_mem _ h
    · rcases List.mem_cons.1 h with h | h
      · exact h ▸ List.mem_cons_self ..
      · exact List.mem_cons_of_mem _ (ih h)

theorem slotsRise_slotPut {l : List (Nat × α)} (h : slotsRise l = true) (i : Nat) (x : α) : slotsRise (slotPut l i x) = true := by
  induction l with
  | nil => rfl
  | cons c l ih =>
    obtain ⟨k, v⟩ := c
    obtain ⟨ha, hl⟩ := (slotsRise_cons k v l).1 h
    unfold slotPut
    split
    · rename_i hk
      refine (slotsRise_cons i x _).2 ⟨fun d hd => ?_, h⟩
      rcases List.mem_cons.1 hd with rfl | hd
      · exact hk
      · exact Nat.lt_trans hk (ha d hd)
    · split
      · rename_i hk
        exact (slotsRise_cons i x l).2 ⟨hk ▸ ha, hl⟩
      · refine (slotsRise_cons k v _).2 ⟨fun d hd => ?_, ih hl⟩
        rcases mem_slotPut hd with rfl | hd
        · show k < i
          omega
        · exact ha d hd

theorem slotsRise_slotErase {l : List (Nat × α)} (h : slotsRise l = true) (i : Nat) : slotsRise (slotErase l i) = true := by
  induction l with
  | nil => rfl
  | cons c l ih =>
    obtain ⟨k, v⟩ := c
    obtain ⟨ha, hl⟩ := (slotsRise_cons k v l).1 h
    unfold slotErase
    split
    · exact hl
    · exact (slotsRise_cons k v _).2 ⟨fun d hd => ha d (mem_slotErase hd), ih hl⟩

/-! ### Rings -/

/-- A write of a slot below 65,536 keeps a ring's canonical form. -/
theorem ringWf_ringWrite {r : Ring} (h : ringWf r = true) {i : Nat} (hi : i < Config.ringSlots) (x : Int) :
    ringWf (ringWrite r i x) = true := by
  simp only [ringWf, Bool.and_eq_true, List.all_eq_true, decide_eq_true_eq] at h ⊢
  unfold ringWrite
  split
  · exact ⟨slotsRise_slotErase h.1 i, fun c hc => h.2 c (mem_slotErase hc)⟩
  · rename_i hx
    refine ⟨slotsRise_slotPut h.1 i x, fun c hc => ?_⟩
    rcases mem_slotPut hc with rfl | hc
    · exact ⟨hi, hx⟩
    · exact h.2 c hc

/-- A slot just written holds the value written. -/
theorem ringRead_ringWrite_self {r : Ring} (h : ringWf r = true) (i : Nat) (x : Int) : ringRead (ringWrite r i x) i = x := by
  simp only [ringWf, Bool.and_eq_true] at h
  unfold ringWrite ringRead
  split
  · rename_i hx
    simp [slotFind_slotErase_self h.1, hx]
  · simp

/-- A write of one slot leaves every other slot as it was. -/
theorem ringRead_ringWrite_of_ne (r : Ring) {i j : Nat} (x : Int) (h : j ≠ i) : ringRead (ringWrite r i x) j = ringRead r j := by
  unfold ringWrite ringRead
  split
  · rw [slotFind_slotErase_of_ne _ h]
  · rw [slotFind_slotPut_of_ne _ _ h]

/-- A cleared ring is in canonical form and holds 0 in every slot. -/
theorem ringWf_nil : ringWf [] = true := rfl

@[simp] theorem ringRead_nil (i : Nat) : ringRead [] i = 0 := rfl

end Sys2Proof.Machine
end

