-- ==== Sys2Proof/Tests/Slice0.lean ====
section
/-! SUPPORT. Tests: well-formedness, worked examples of the spec with the values it prints, one step of some commands, and for each
statement with hypotheses a state and operands that meet them (`meets_<statement>`). -/

namespace Sys2Proof.Tests

open Sys2Proof.Machine

/-! ### States for the tests -/

/-- The state a test looks at after a command. -/
def run (c : Instr) (s : State) : State :=
  s.after c

/-- A part in a pass state, with its converters in a state. -/
def inPass (st : PassState) (conv : ConverterState) : State :=
  { State.reset with
    psc := { State.reset.psc with state := st, armed := true }
    cfe := { State.reset.cfe with converter := conv, settleCount := if conv = .settling then 4096 else 0 } }

/-- ARMED, with the converters settling. -/
def armedPart : State := inPass .armed .settling

/-- ARMED, with the converters settled. -/
def settledPart : State := inPass .armed .settled

/-- RUNNING, at capture index 0. -/
def runningPart : State := inPass .running .capturing

/-- An end of pass: E is 0 and a cause is held. -/
def pastCapture (st : PassState) : State :=
  { inPass st .stopped with
    psc := { (inPass st .stopped).psc with cause := some .stopped }
    crg := { State.reset.crg with e := some 0 } }

/-- DRAINING, with E at 0. -/
def drainingPart : State := pastCapture .draining

/-- ENDED, with E at 0. -/
def endedPart : State := pastCapture .ended

/-- A pass whose settings are changed, stored and copied alike. -/
def withSettings (s : State) (g : Settings) : State :=
  { s with psc := { s.psc with stored := g, pass := g } }

/-- The defaults with stream 0 enabled on a source, 128 frames a block. -/
def oneStream (source : StreamSource) : Settings :=
  { Settings.default with streams := Settings.default.streams.set 0 ⟨true, source, .s24, 128⟩ }

/-- The defaults with line 0 set to an action. -/
def oneLine (a : LineAction) (e : Edge) (d : Nat) : Settings :=
  { Settings.default with lines := Settings.default.lines.set 0 ⟨a, e, d, true⟩ }

/-- A part whose exchange holds an OK reply of a kind. -/
def replying (s : State) (kind : Byte) : State :=
  { s with link := answered kind .ok [] }

/-- A block of no frames. -/
def oneBlock : Block := sealBlock 0 (Settings.default.streams.get 0) .cleared true 0

/-- A settled SPLICE entry of side A on indices 100 to 109. -/
def oneSplice : DefectEntry :=
  ⟨.splice, sideTracks .A, 100, 10, none, none, none, false, false, true, []⟩

/-- A group of equal samples. -/
def flat (x : BitVec 24) : WideGroup := PerTrack.all ⟨x, x, x, x⟩

/-! ### Well-formed commands -/

theorem test_wellFormed_known_kind_is_no_bad_kind : (Instr.badKindRequest 0x10).wellFormed = false := by decide
theorem test_wellFormed_unknown_kind : (Instr.badKindRequest 0x7E).wellFormed = true := by decide
theorem test_wellFormed_length_512_is_not_above : (Instr.lengthAbove512 0x10 512).wellFormed = false := by decide
theorem test_wellFormed_length_513 : (Instr.lengthAbove512 0x10 513).wellFormed = true := by decide
theorem test_wellFormed_payload_513 : (Instr.ident (List.replicate 513 0)).wellFormed = false := by decide +kernel
theorem test_wellFormed_payload_512 : (Instr.ident (List.replicate 512 0)).wellFormed = true := by decide +kernel

/-! ### Frames of the link: section 11.8's layout, with the CRC of the spec's generator -/

/-- R127: the nine ASCII bytes "123456789" give 29B1h. -/
theorem test_crc_check_value : crc16 [0x31, 0x32, 0x33, 0x34, 0x35, 0x36, 0x37, 0x38, 0x39] = 0x29B1#16 := by decide +kernel

/-- A START request, written byte by byte: A5h, kind 31h, length 0, CRC over 31h 00h 00h. -/
theorem test_decode_start :
    decodeRequest ([0xA5, 0x31, 0x00, 0x00] ++ bytesOfNat 2 (crc16 [0x31, 0x00, 0x00]).toNat) = some (.start []) := by
  decide +kernel

/-- An ADJUST_SKEW of side B, DOWN16. -/
theorem test_decode_adjust_skew :
    decodeRequest ([0xA5, 0x20, 0x00, 0x02, 0x01, 0x04] ++ bytesOfNat 2 (crc16 [0x20, 0x00, 0x02, 0x01, 0x04]).toNat) =
      some (.adjustSkew [1, 4]) := by decide +kernel

theorem test_decode_wrong_crc :
    (decodeRequest [0xA5, 0x31, 0x00, 0x00, 0x00, 0x00]) = some (.checkFailedRequest 0x31) := by decide +kernel
theorem test_decode_length_513 : decodeRequest [0xA5, 0x31, 0x02, 0x01] = some (.lengthAbove512 0x31 0x0201) := by
  decide +kernel

/-! ### Worked numbers of the spec -/

/-- R4's two examples. -/
theorem test_decimate : decimate ⟨100, 101, 102, 104⟩ = 102 ∧ decimate ⟨-1, -2, -2, -2⟩ = -2 := by decide

/-- R20's two examples. -/
theorem test_crossing : risingCrossing (-300) 900 9001 = some 2304064 ∧ risingCrossing (-5) 0 9001 = some 2304256 := by decide

/-- Section 3.8: the raw step of a BIAS window, and of a DECK window at double speed. -/
theorem test_rawStep : rawStepBias 33554432 523776 253 2048 = 33919154 ∧ rawStepDeck 16777216 3880 3840 = 16951979 := by decide

/-- R47's table at the nominal step 33,554,432. -/
theorem test_bounds :
    [20, 40, 80, 125].map (fun sw => (lowerBound 33554432 sw, upperBound 33554432 sw)) =
      [(32883343, 34225521), (32212254, 34896610), (30870077, 36238787), (29360128, 37748736)] := by decide

/-- Section 3.8: three base steps smoothed with M = 3, and an exact half. -/
theorem test_smoothing : roundHalfUpNat 101392740 3 = 33797580 ∧ roundHalfUpNat 33729195 2 = 16864598 := by decide

/-- R43: the steps of the output rates, and R105's classes. -/
theorem test_nominal :
    [(192000, 2), (192000, 1), (96000, 1), (48000, 1)].map (fun p => (nominalStep p.1 p.2, classOf (nominalStep p.1 p.2))) =
      [(8388608, .A), (16777216, .A), (33554432, .B), (67108864, .C)] := by decide

/-- Section 4.11: unclamped gains, depths and the running level kept. -/
theorem test_gains :
    [150000, 110000, 90000, 120000, 180000, 320000, 260000].map (fun e => (unclampedGain 400000 e, tickDepth 400000 e)) =
      [(10922, 1536), (14894, 1126), (18204, 921), (13653, 1228), (9102, 1843), (5120, 3276), (6301, 2662)] := by decide

/-- Sections 4.11 and 4.12: lifted values, one of them saturated. -/
theorem test_lifted : lifted 100000 14894 = 363623 ∧ lifted (-1000000) 8192 = -2000000 ∧ lifted 5000000 8192 = 8388607 := by
  decide

/-- R94's table. -/
theorem test_frameSkew :
    [(5, -2), (0, 5), (125, 8), (-128, 3), (-124, -8)].map (fun p : Int × Int => frameSkew p.1 p.2) = [3, 5, 127, -125, -128] := by
  decide

/-- Section 6.7: the R positions of skews 3 and -128, and their integer parts. -/
theorem test_rightPosition :
    rightPosition 33919154 3 = 37064882 ∧ rightPosition 33919154 (-128) = -100298574 ∧ (-100298574 : Int) / 2 ^ 24 = -6 ∧
      phaseOf 3510450 = 13 := by decide

/-- R124's table in S16. -/
theorem test_s16 : [363623, -129, 128, 8388607, -8388608].map SampleFormat.s16.value = [1420, -1, 1, 32767, -32768] := by decide

/-- Section 2.4's window: BIAS_L, n = 253, P_sum = 523,776 against P_eff 2048, is IN. -/
theorem test_verdict :
    verdictBias ⟨Settings.default.sides.get .A, 33554432, 512, false, false, none⟩ 2048 253 523776 1 = .inside := by decide

/-- Section 1.3: twelve full-scale samples from wide index 1,022 report a span from index 255 that ends at 258. -/
theorem test_clip_run :
    (clipRun .t2 1022 (List.replicate 12 8388607 ++ [0]) .idle).2.getLast? =
      some (.growth ⟨.clip .t2, some (255, 4), none, none, true⟩) := by decide

/-- R56: D_thr and R_thr clamp D_thr first. -/
theorem test_thresholds_clamp :
    let g := SideSettings.clamped { Settings.default.sides.get .A with dThr := 4000, rThr := 100 }
    g.dThr = 3584 ∧ g.rThr = 3585 := by decide

/-- The monitor of section 4.11's example, before tick 1001 completes. -/
def dropoutMonitor : Monitor :=
  { State.reset.lvm.t1 with monitored := true, lift := true, gMax := 16384, level := 400000, ticks := 1001 }

/-- The side settings of section 4.11's example. -/
def dropoutSide : SideSettings :=
  { Settings.default.sides.get .A with dThr := 2048, rThr := 3072, debounce := 4, lift := true, gMax := 16384 }

/-- Envelopes completed one after another. -/
def completeAll (m : Monitor) (g : SideSettings) : List Nat → Monitor × List Report
  | [] => (m, [])
  | e :: es =>
    let a := { m with peak := e }.completeTick g .t1
    let b := completeAll a.1 g es
    (b.1, a.2 ++ b.2)

/-- Section 4.11: the reports of the worked dropout. -/
theorem test_dropout_reports :
    (completeAll dropoutMonitor dropoutSide
        [150000, 110000, 90000, 120000, 180000, 320000, 260000, 350000, 390000, 400000, 405000]).2 =
      [.span ⟨.dropout, oneTrack .t1, 16016, 64, some 921, some .limited, none, false, some (.dropout .t1)⟩,
        .growth ⟨.dropout .t1, some (16016, 80), some 921, some .limited, false⟩,
        .growth ⟨.dropout .t1, some (16016, 112), some 921, some .limited, false⟩,
        .growth ⟨.dropout .t1, some (16016, 112), some 921, some .limited, true⟩] := by decide +kernel

/-! ### One step of a command -/

theorem test_start_pending_while_settling : (run (.start []) armedPart).psc.startPending = true := by decide
theorem test_settle_end_takes_pending_start :
    (run .settleEnd (run (.start []) armedPart)).psc.state = .running := by decide
theorem test_stop_in_running_drains : (run (.stop []) runningPart).psc.cause = some .stopped := by decide
theorem test_abort_in_draining_ends : (run (.abort []) drainingPart).psc.cause = some .aborted := by decide
theorem test_arm_without_stream : (run (.arm []) State.reset).link.reply = some ⟨0x30, .badSetup, [1, 0]⟩ := by decide
theorem test_skew_saturates :
    ((run (.adjustSkew [0, 4])
        { State.reset with rsp := State.reset.rsp.set .A { State.reset.rsp.a with baseSkew := -115 } }).rsp.get .A).baseSkew = -128 := by
  decide
theorem test_group_event_counts : (run (.groupEvent (flat 7)) runningPart).crg.w = 1 := by decide +kernel
theorem test_fetch_block_keeps_the_head : (run (.fetchBlock []) { State.reset with oq := ⟨[oneBlock], []⟩ }).oq.blocks.length = 1 := by
  decide +kernel
/-- R169: a line set in IDLE keeps acting by its pass copy until the next ARM. -/
theorem test_stored_line_waits_for_the_next_arm :
    let s := { State.reset with psc := { State.reset.psc with stored := oneLine .mark .fall 32 } }
    let armed := { s with sns := { s.sns with lines := s.sns.lines.set 0 ⟨false, 0, .armed⟩ } }
    (run (.lineChangeAccepted 0) armed).sns.lines.l0.sticky = .tripped := by decide

/-- R97: a crossing held through a boundary at which P_eff falls to 768 gives no offset above 384. The R track's crossing is the one of
R20 whose value is exactly 0, at wide sample 2048, and the latest L crossing lies 1,500 units before it. -/
theorem test_held_offset_takes_the_new_period :
    let t : Tracker := { State.reset.rtr.a with
      pEff := 4000, left := ⟨0, some 1, some (256 * 2048 - 1500)⟩, right := ⟨0, some (-5), none⟩ }
    let sums := fun cues : List Cue =>
      let s := { runningPart with rtr := runningPart.rtr.set .A t, psc := { runningPart.psc with cues := cues } }
      ((s.boundary .A 512 0 0).rtr.get .A).sums
    sums [] = { WindowSums.zero with offsetSum := 1500, offsetCount := 1 } ∧
      sums [⟨512, .source .A .none (some 768), false⟩] = .zero := by decide

/-- R58, R68, R71: with E at 65,537 the partial final tick 4096 leaves the record of tick 0 in its slot. -/
theorem test_partial_tick_replaces_no_record :
    let r : TickRecord := ⟨0, 5, true, 8192, .inside, some .lifted, some 5000⟩
    let m := ({ State.reset.lvm.t1 with ticks := 4096, records := [(0, r)], peak := 9 }.finish .t1 65537).1
    m.record 0 = some r ∧ (m.record 4096).map (·.envelope) = some 9 := by decide

theorem test_line_reset_holds_the_link : (run .selectFall (run .lineReset State.reset)).link.phase = .idle := by decide
theorem test_restart_waits_for_its_reply : (run (.restart []) runningPart).psc.state = .running := by decide
theorem test_restart_effect : (run .restartEffect (run (.restart []) runningPart)).psc.state = .idle := by decide

/-! ### The hypotheses of the statements are met -/

theorem meets_StepTakesTheFrontCommand :
    { State.reset with pending := [Instr.selectFall] }.pending = .selectFall :: [] ∧ State.reset.pending = [] ∧
      State.reset.clock.lineReset = false ∧ State.reset.due = none ∧
      { runningPart with crg := { runningPart.crg with w := 2 ^ 40 - 1 } }.due = some .limit ∧
      (run .lineReset State.reset).clock.lineReset = true := by decide

theorem meets_WrongLengthIsRefused :
    State.reset.listening = true ∧ (Instr.setSide []).request = some (0x10, []) ∧ (0x10, 24) ∈ requestKinds ∧
      ([] : List Byte).length ≠ 24 := by decide

theorem meets_StateRefusalsFollowTheTable :
    runningPart.listening = true ∧ (Instr.discard []).request = some (0x58, []) ∧ (0x58, 0) ∈ requestKinds ∧
      refusedInState 0x58 runningPart.psc.state true = true ∧ refusedInState 0x58 endedPart.psc.state true = false ∧
      refusedInState 0x30 .ended false = true ∧ refusedInState 0x30 .ended true = false := by decide

theorem meets_EnvelopeErrorsAndDeafLink :
    State.reset.listening = true ∧ (run .lineReset State.reset).clock.lineReset = true ∧
      (run (.ident []) State.reset).link.phase = .turnaround ∧ (Instr.ident []).request.isSome = true := by decide

theorem meets_IdentAndStatusReplies : (run .selectFall State.reset).listening = true := by decide

theorem meets_FetchRepliesCarryTheHead :
    State.reset.listening = true ∧ State.reset.oq.blocks = [] ∧ State.reset.notices.queue = [] ∧
      { State.reset with oq := ⟨[oneBlock], []⟩ }.listening = true ∧
      (State.reset.notify (.line 0 true) 0).notices.queue = [⟨.line 0 true, 0⟩] := by decide

theorem meets_CompletedRepliesRemoveTheirItems :
    (replying State.reset 0x40).clock.lineReset = false ∧ (replying State.reset 0x40).link.phase ∈ [.turnaround, .reply] ∧
      (replying State.reset 0x40).link.reply = some ⟨0x40, .ok, []⟩ ∧ (replying State.reset 0x48).link.reply ≠ none := by decide

theorem meets_TakeDefectsSelectsSettledEntries :
    { State.reset with dfl := { DefectList.empty with entries := [oneSplice] } }.listening = true ∧ oneSplice.isSettled = true := by
  decide

theorem meets_TakenSplicesStayKnown :
    (109 ≤ 109) ∧ { DefectList.empty with entries := [{ oneSplice with carried := true }] }.spliced .A 109 109 = true ∧
      { DefectList.empty with entries := [{ oneSplice with carried := true }] }.spliced .A 110 110 = false := by decide

theorem meets_DiscardEmptiesListAndQueue :
    endedPart.listening = true ∧ endedPart.psc.state = .ended ∧ runningPart.listening = true ∧ runningPart.psc.state ≠ .ended := by
  decide

theorem meets_ClearLinesSetsTheStickyFlags :
    State.reset.listening = true ∧ (63 : Byte).toNat < 64 ∧ 64 ≤ (64 : Byte).toNat := by decide

theorem meets_SelectBoundsAnExchange :
    (run .lineReset State.reset).clock.lineReset = true ∧ State.reset.link.phase = .idle ∧
      (run .selectFall State.reset).link.phase ∉ [.turnaround, .reply] ∧
      (replying State.reset 0x42).link.phase ∈ [.turnaround, .reply] ∧
      (replying State.reset 0x42).link.reply = some ⟨0x42, .ok, []⟩ ∧ (0x41 : Byte) ∉ [0x42, 0x7F] := by decide

theorem meets_RestartTakesEffectAfterItsReply :
    runningPart.listening = true ∧ runningPart.inFlight 0x7F = false ∧ (replying runningPart 0x7F).inFlight 0x7F = true := by decide

theorem meets_LineResetLeavesTheResetState :
    (run .lineReset runningPart).clock.lineReset = true ∧ runningPart.clock.lineReset = false := by decide

theorem meets_RequestFramesDecode :
    (Instr.adjustSkew [1, 4]).wellFormed = true ∧
      encodeRequest (.adjustSkew [1, 4]) = some (requestFrame 0x20 [1, 4]) := ⟨by decide, rfl⟩

theorem meets_ClockedFrameIsTaken :
    (run .selectFall State.reset).clock.lineReset = false ∧ (run .selectFall State.reset).link = ⟨.hunt, [], 0, none⟩ := by decide

theorem meets_ReplyIsClockedOut :
    (replying State.reset 0x40).clock.lineReset = false ∧ (replying State.reset 0x40).link = answered 0x40 .ok [] ∧
      (List.replicate 9 (0 : Byte)).length = 2 + (Reply.mk 0x40 .ok []).frame.length := by decide +kernel

theorem meets_SetSideStoresTheGroup :
    State.reset.listening = true ∧ State.reset.psc.state ∈ [.idle, .ended] ∧
      (Settings.default.sides.get .A).sendable = true ∧
      { Settings.default.sides.get .A with dThr := 65535, rThr := 0, pNom := 767, gMax := 0 }.sendable = true ∧
      (List.replicate 24 (0 : Byte)).length = 24 ∧ badSideBytes (List.replicate 24 0) = true := by decide

theorem meets_SetPassStoresTheGroup :
    endedPart.listening = true ∧ endedPart.psc.state ∈ [.idle, .ended] ∧ Settings.default.pass.sendable = true ∧
      { Settings.default.pass with spliceLead := 65535, spliceGuard := 0, highWater := 0 }.sendable = true ∧
      badPassBytes (List.replicate 12 0) = true := by decide

theorem meets_SetStreamStoresTheDescriptor :
    State.reset.listening = true ∧ State.reset.psc.state ∈ [.idle, .ended] ∧ (Settings.default.streams.get 0).ok = true ∧
      badStreamBytes (List.replicate 7 0) = true := by decide

theorem meets_SetLineStoresTheSetting :
    State.reset.listening = true ∧ State.reset.psc.state ∈ [.idle, .ended] ∧ 8192 ∈ [0, 32, 512, 8192] ∧
      (∀ j : Fin 6, j ≠ 0 → (Settings.default.lines.get j).action ≠ .tacho) ∧ (oneLine .tacho .rise 0).oneTacho = true ∧
      ((oneLine .tacho .rise 0).lines.get 0).action = .tacho ∧ badLineBytes [6, 0, 0, 0, 0, 0] = true := by decide

theorem meets_AdjustSkewStepsAndSaturates :
    State.reset.listening = true ∧ [0, 1, -1, 16, -16][4]? = some (-16 : Int) ∧ -128 ≤ (State.reset.rsp.get .A).baseSkew ∧
      (State.reset.rsp.get .A).baseSkew ≤ 127 ∧ 1 < (2 : Byte).toNat ∧ 4 < (5 : Byte).toNat := by decide

theorem meets_ReadSkewReportsTheSide : State.reset.listening = true ∧ 1 < (2 : Byte).toNat := by decide

theorem meets_PostCueInsertsOrReplaces :
    armedPart.listening = true ∧ armedPart.psc.state ∈ [.armed, .running, .draining] ∧ 2 ^ 40 - 1 < 2 ^ 40 ∧
      (CueBody.gMax .A 65535).sendable = true ∧ armedPart.psc.cues.length < 16 ∧ cuesOrdered armedPart.psc.cues ∧
      16 ≤ (List.replicate 16 (⟨0, .lift .A true, false⟩ : Cue)).length ∧
      (∀ d ∈ List.replicate 16 (⟨0, .lift .A true, false⟩ : Cue), d.same ⟨1, .lift .A true, false⟩ = false) ∧
      badCueBytes [0, 0, 0, 0, 0, 6, 0, 0, 0, 0, 0] = true ∧
      ([0, 0, 0, 0, 3, 2, 0, 1, 9, 9, 9] : List Byte).take (7 + (CueBody.lift .A true).valueLength) =
        (cueBytes ⟨3, .lift .A true, false⟩).take (7 + (CueBody.lift .A true).valueLength) := by simp [cuesOrdered]; decide

theorem meets_DropCueRemovesTheNamedCue :
    runningPart.listening = true ∧ runningPart.psc.state ∈ [.armed, .running, .draining] ∧
      ([0, 0, 0, 0, 0, 5, 15] : List Byte).length = 7 ∧ badCueName 5 15 = false ∧ badCueName 5 16 = true ∧ badCueName 4 2 = true := by
  decide

theorem meets_ArmNamesTheFailedCheck :
    State.reset.listening = true ∧ State.reset.psc.state = .idle ∧ (∀ i, (Settings.default.streams.get i).enabled = false) ∧
      ((oneStream (.side .A true true)).streams.get 0).orphan
        { oneStream (.side .A true true) with sides := .all { Settings.default.sides.get .A with enabled := false } } = true ∧
      { oneStream (.side .A true true) with
        sides := .all { Settings.default.sides.get .A with source := .deck } }.deckSide .A = true ∧
      endedPart.psc.state = .ended ∧ endedPart.oq.blocks = [] := by decide

theorem meets_ArmSetsUpThePass :
    (withSettings State.reset (oneStream (.side .A true true))).listening = true ∧
      (withSettings State.reset (oneStream (.side .A true true))).psc.state = .idle ∧
      ((oneStream (.side .A true true)).streams.get 0).enabled = true ∧
      (∀ x, ((oneStream (.side .A true true)).sides.get x).enabled = true) ∧
      (∀ x, ((oneStream (.side .A true true)).sides.get x).source ≠ .deck) := by
  refine ⟨by decide, by decide, by decide, ?_, ?_⟩ <;> intro x <;> cases x <;> decide

theorem meets_StartBeginsCapture :
    armedPart.listening = true ∧ armedPart.psc.state = .armed ∧ armedPart.psc.startPending = false ∧
      armedPart.cfe.converter ≠ .settled ∧ settledPart.listening = true ∧ settledPart.psc.state = .armed ∧
      settledPart.cfe.converter = .settled ∧ (run (.start []) armedPart).psc.startPending = true ∧
      runningPart.psc.state = .running := by decide

theorem meets_StopEndsCapture :
    armedPart.listening = true ∧ armedPart.psc.state = .armed ∧ drainingPart.listening = true ∧
      drainingPart.psc.state = .draining ∧ runningPart.listening = true ∧ runningPart.psc.state = .running := by decide

theorem meets_AbortEndsThePass :
    runningPart.listening = true ∧ runningPart.psc.state ∈ [.running, .draining] ∧ drainingPart.listening = true ∧
      drainingPart.psc.state ∈ [.running, .draining] ∧ drainingPart.crg.e = some 0 := by decide

theorem meets_SettleEndAndLimit :
    armedPart.cfe.converter = .settling ∧ armedPart.psc.startPending = false ∧
      (run (.start []) armedPart).cfe.converter = .settling ∧ (run (.start []) armedPart).psc.startPending = true ∧
      runningPart.cfe.converter ≠ .settling ∧
      { runningPart with crg := { runningPart.crg with w := 2 ^ 40 - 1 } }.crg.w = 2 ^ 40 - 1 ∧ runningPart.crg.w ≠ 2 ^ 40 - 1 := by
  decide

theorem meets_CompletionEntersEnded :
    drainingPart.psc.state = .draining ∧ (∀ i, (drainingPart.psc.pass.streams.get i).enabled = false) := by decide

theorem meets_GroupEventWritesTheRings :
    runningPart.cfe.converter = .capturing ∧ runningPart.crg.w < 2 ^ 40 - 1 ∧ runningPart.ringsOk = true ∧
      State.reset.cfe.converter ≠ .capturing ∧ 2 ^ 40 - 2 < 2 ^ 40 - 1 := by decide

/-- RUNNING at capture index 65,536, with raw stream 0 on track 1 at next index `r` and side A at read position `p`. -/
def behindPart (p r : Nat) : State :=
  let s := withSettings runningPart (oneStream (.raw (oneTrack .t1)))
  { s with
    crg := { s.crg with w := 65536, sideConsumer := .all true, streamConsumer := s.crg.streamConsumer.set 0 true }
    rsp := s.rsp.set .A { s.rsp.a with state := .active, position := p }
    sas := s.sas.set 0 { s.sas.s0 with state := .filling, r := r } }

theorem meets_OverrunJumpsTheConsumer :
    (behindPart 0 0).capturing = true ∧ ((behindPart 0 0).rsp.get .A).oldest ≤ 0 ∧
      ((behindPart (15 * 2 ^ 24) 0).rsp.get .A).oldest = 0 ∧ ((behindPart (16 * 2 ^ 24) 1).rsp.get .A).oldest = 1 ∧
      ((behindPart 0 0).rawTracks 0).isSome = true ∧ ((behindPart 0 0).sas.get 0).r + 65536 ≤ (behindPart 0 0).crg.w ∧
      ¬((behindPart 0 1).sas.get 0).r + 65536 ≤ (behindPart 0 1).crg.w := by decide

theorem meets_ClipRunMakesOneSpan :
    ([8388592, -8388592, 8388607, -8388608, 8388607] : List Int) ≠ [] ∧
      (∀ x ∈ ([8388592, -8388592, 8388607, -8388608, 8388607] : List Int), 8388592 ≤ x.natAbs) ∧
      (8388591 : Int).natAbs < 8388592 := by decide

theorem meets_RisingCrossingIsInterpolated :
    { FilteredTrack.cleared with held := some (-5) }.held = some (-5) ∧ (-5 : Int) < 0 ∧ (0 : Int) ≤ 0 ∧
      FilteredTrack.cleared.held = none := by decide

/-- The tracker and the close of section 2.4's window, in LOCKED. -/
def judged : Tracker :=
  { State.reset.rtr.a with source := .biasL, pEff := 2048, lock := .locked, sums := { WindowSums.zero with nL := 253, pL := 523776 } }

/-- The close of a window of 512 at a boundary, with hold limit 1. -/
def judging : Closing :=
  ⟨{ Settings.default.sides.get .A with holdLimit := 1 }, 33554432, 512, false, false, none⟩

theorem meets_RawStepsStayInBounds :
    judging.settings.ok = true ∧ 0 < judging.length ∧ judged.rawStep judging (judged.verdict judging) = some 33919154 := by decide

theorem meets_LockFollowsTheTable :
    judged.verdict judging = some .inside ∧ judged.acquiring = false ∧ judged.lock = .locked ∧ (1 ≤ 1) ∧
      { judged with sums := .zero }.allRejected 1 [judging] ∧ { judged with sums := .zero }.allRejected 1 [judging, judging] := by
  refine ⟨by decide, by decide, by decide, by decide, ⟨by decide, by decide, trivial⟩, ⟨by decide, by decide, by decide, by decide, trivial⟩⟩

/-- The close of section 2.4's window in acquisition, of `a` windows. -/
def acquiringClose (a : Nat) : Closing :=
  { judging with settings := { judging.settings with acquire := a } }

theorem meets_LockFollowsTheTable_in_acquisition :
    let t : Tracker := { judged with lock := .search, pEff := 0 }
    t.source ∈ [.biasL, .biasR, .biasBoth] ∧ t.verdict (acquiringClose 1) = some .inside ∧ t.acqCount + 1 = 1 ∧
      t.acqCount + 1 ≠ 2 ∧ { t with sums := .zero }.verdict (acquiringClose 2) = some .noRef ∧
      t.verdict { acquiringClose 2 with spliced := true } = some .splice ∧ (t.close (acquiringClose 1)).pEff = 2070 := by decide

theorem meets_WindowCloseWritesTheEntry :
    judging.settings.ok = true ∧ (judged.close judging).final = 0 ∧
      (judged.close { judging with atEnd := true }).final = 1 ∧
      (tableEntry (judged.close { judging with atEnd := true }).table 128 0).isSome = true := by decide

/-- Window 138 of 512 ends the capture at 71,000, when side A's read position may stand in window 10, whose slot that close takes: the
entry stays readable, as R102 has it of every I below E. A boundary close replaces it (R37). -/
theorem test_end_close_keeps_the_displaced_entry :
    let e : SpeedEntry := ⟨10, none, 0, 0, none, 33554432, some 33554432, 0, .off⟩
    let t : Tracker := { judged with windows := 138, final := 136, table := [(10, e)] }
    let last := { judging with length := 344, atEnd := true }
    tableEntry (t.close last).table 128 10 = none ∧ (t.close last).entry 128 10 = some e ∧
      (t.close last).entry 128 138 ≠ none ∧ (t.close judging).entry 128 10 = none := by decide +kernel

theorem meets_DropoutGainsFollowTheTable :
    let r : TickRecord := ⟨0, 90000, true, 16384, .pending, none, none⟩
    4096 ≤ r.gMax ∧ r.gMax ≤ 16384 ∧ r.lift = true ∧ r.gMax < 4096 * 400000 / max r.envelope 1 ∧
      4096 * 300000 / max r.envelope 1 ≤ r.gMax ∧ 80000 < r.envelope := by decide

theorem meets_TickCompletionKeepsSettledDecided :
    dropoutSide.debounce ∈ [1, 4, 16, 64] ∧ { dropoutMonitor with settled := 16 * 997 }.tickOk dropoutSide = true ∧
      ({ dropoutMonitor with settled := 16 * 997, peak := 150000 }.completeTick dropoutSide .t1).1.state = .opening ∧
      0 < 16 ∧ 15 < 16 ∧ dropoutMonitor.span = none := by decide

/-- A full defect list. -/
def fullPart : State :=
  { runningPart with dfl := { DefectList.empty with entries := List.replicate 512 oneSplice } }

theorem meets_FullListCountsUnlistedSpans :
    fullPart.dfl.entries.length = 512 ∧
      fullPart.dfl.entries.filter (SpanReport.entry ⟨.splice, sideTracks .A, 111, 1, none, none, none, false, none⟩).meets = [] ∧
      fullPart.dfl.entries.filter (SpanReport.entry ⟨.splice, sideTracks .A, 110, 1, none, none, none, false, none⟩).meets ≠ [] := by
  decide +kernel

/-- RUNNING with side A's first frame due: entry 0 final, the settled index at 17, w at 17. -/
def frameDue (settled w : Nat) : State :=
  let s := withSettings runningPart (oneStream (.side .A true true))
  { s with
    crg := { s.crg with w := w }
    rtr := s.rtr.set .A { s.rtr.a with table := [(0, ⟨0, none, 0, 0, none, 33554432, some 33554432, 0, .off⟩)], final := 1, windows := 1 }
    lvm := .all { s.lvm.t1 with monitored := true, settled := settled }
    rsp := s.rsp.set .A { s.rsp.a with state := .active }
    sas := s.sas.set 0 { s.sas.s0 with state := .filling } }

theorem meets_ProduceFrameNeedsTheGate :
    (frameDue 17 17).gateOpen .A = true ∧ (frameDue 16 17).gateOpen .A = false ∧ (frameDue 17 16).gateOpen .A = false ∧
      (frameDue 17 17).restores .A 0 = true ∧ (frameDue 17 17).restores .B 0 = false ∧
      ((frameDue 17 17).frameEntry .A).map (·.2) = some 33554432 := by decide

/-- DRAINING with E at `e` and side A's first frame due, its stream's buffer one slot below full. -/
def lastFrameDue (e : Nat) : State :=
  let s := frameDue 33 17
  { s with
    psc := { s.psc with state := .draining }
    crg := { s.crg with e := some e }
    rsp := s.rsp.set .A { s.rsp.a with state := .draining }
    sas := s.sas.set 0 { s.sas.s0 with buffer := List.replicate 127 [] } }

theorem meets_ProduceFrameNeedsTheGate_in_draining :
    (lastFrameDue 2).gateOpen .A = true ∧ (lastFrameDue 3).gateOpen .A = true ∧ (lastFrameDue 0).gateOpen .A = false ∧
      ((lastFrameDue 3).rsp.get .A).position + 33554432 < 3 * 2 ^ 24 ∧
      ((lastFrameDue 2).sas.get 0).buffer.length + 1 = ((lastFrameDue 2).psc.pass.streams.get 0).framesPerBlock := by decide +kernel

theorem meets_WaitCauseNamesTheFirstFailure :
    runningPart.testGates.rsp.a.wait = .none ∧ (frameDue 16 17).testGates.rsp.a.wait = .settle ∧
      { frameDue 16 17 with rtr := runningPart.rtr }.testGates.rsp.a.wait = .entry ∧
      { frameDue 17 17 with sas := runningPart.sas }.testGates.rsp.a.wait = .room ∧ (frameDue 17 17).testGates.rsp.a.wait = .none := by
  decide

theorem meets_InterpolationIsExactOnConstants : (-8388608 : Int) ≤ -3 ∧ (-3 : Int) ≤ 8388607 ∧ 2 ^ 24 - 1 < 2 ^ 24 := by decide

theorem meets_TakeSampleGroupReadsTheRing :
    ((behindPart 0 65535).psc.pass.streams.get 0).enabled = true ∧ ((behindPart 0 65535).sas.get 0).state = .filling ∧
      ((behindPart 0 65535).sas.get 0).r < (behindPart 0 65535).crg.w ∧
      (behindPart 0 65536).crg.w ≤ ((behindPart 0 65536).sas.get 0).r ∧
      { (behindPart 0 65535).crg with e := some 65536 }.e = some (((behindPart 0 65535).sas.get 0).r + 1) := by decide

theorem meets_SlotGrantSealsTheLowestWaiting :
    let late : Stream := { Stream.cleared with state := .finalWait }
    let s := { drainingPart with sas := (drainingPart.sas.set 3 { Stream.cleared with state := .waiting }).set 5 late }
    (s.sas.get 3).state = .waiting ∧ (∀ j, j < 3 → (s.sas.get j).state ≠ .waiting ∧ (s.sas.get j).state ≠ .finalWait) ∧
      s.oq.granted = [] ∧ s.oq.blocks.length < 64 ∧ { s with oq := ⟨[], [5, 3]⟩ }.oq.granted.head? = some 5 ∧ (∀ i, (drainingPart.sas.get i).state ≠ .waiting) ∧
      let f := { drainingPart with sas := drainingPart.sas.set 5 late }
      (f.sas.get 5).state = .finalWait ∧ (∀ j, j < 5 → (f.sas.get j).state ≠ .waiting ∧ (f.sas.get j).state ≠ .finalWait) ∧
        f.oq.granted = [] ∧ f.oq.blocks.length < 64 := by decide

/-- R128, R129: the slot of a block removed goes to stream 5, which waits already, though stream 2 begins to wait before SLOT_GRANT. -/
theorem test_freed_slot_goes_to_the_stream_already_waiting :
    let wait := fun (s : State) (i : Fin 8) => { s with sas := s.sas.set i { Stream.cleared with state := .waiting } }
    let s := run .blockRemoval (replying (wait { runningPart with oq := ⟨List.replicate 64 oneBlock, []⟩ } 5) 0x40)
    let t := run .slotGrant (wait s 2)
    s.slotFree = false ∧ s.oq.granted = [5] ∧ t.sas.s5.state = .filling ∧ t.sas.s2.state = .waiting ∧ t.oq.granted = [] ∧
      t.oq.blocks.length = 64 := by decide +kernel

theorem meets_SampleFormatsFollowTheTable : (-8388608 : Int) ≤ 8388607 ∧ (8388607 : Int) ≤ 8388607 := by decide

theorem meets_LineChangeRunsTheAction :
    (run .lineReset State.reset).clock.lineReset = true ∧ runningPart.clock.lineReset = false ∧
      ((oneLine .stop .rise 0).lines.get 0).edge = .rise ∧ (runningPart.sns.lines.get 0).level = false ∧
      (run (.lineChangeAccepted 0) (withSettings runningPart (oneLine .stop .rise 0))).psc.state = .draining := by decide

theorem meets_TachoAndSpliceEvents :
    runningPart.sns.stalled = false ∧ runningPart.psc.pass.pass.spliceLead = 0 ∧ (oneLine .tacho .rise 32).tachoLine = some 0 ∧
      { Settings.default.pass with spliceLead := 3 }.spliceLead ≠ 0 := by decide

/-- RUNNING with a TACHO line and the stall timer at 1. -/
def stallPart (stop : Bool) : State :=
  let g := { oneLine .tacho .rise 32 with pass := { Settings.default.pass with stallCount := 8, stopOnStall := stop } }
  let s := withSettings runningPart g
  { s with sns := { s.sns with timer := some 1 } }

theorem meets_StallExpiryDeclaresAStall :
    (stallPart true).psc.state = .running ∧ (stallPart true).sns.timer ≠ none ∧ (stallPart true).sns.stalled = false ∧
      (stallPart true).psc.pass.tachoLine = some 0 ∧ (run .stallExpiry (stallPart true)).psc.cause = some .stall ∧
      (run .stallExpiry (stallPart false)).psc.state = .running ∧ runningPart.sns.timer = none := by decide

theorem meets_DebounceDelaysAChange :
    (State.reset.sns.lines.get 0).count = 0 ∧ 32 ≤ ((oneLine .tacho .rise 32).lines.get 0).debounce := by decide

theorem meets_NoticesAndAttention :
    State.reset.notices.queue.length < 32 ∧ 32 ≤ (List.replicate 32 (⟨.line 0 true, 0⟩ : Notice)).length ∧ 255 ≤ 255 := by decide

theorem meets_the_invariants :
    State.reset.ringsOk = true ∧ State.reset.capacityOk = true ∧ State.reset.settingsOk = true ∧ State.reset.skewOk = true ∧
      cuesOrdered State.reset.psc.cues ∧ State.reset.dfl.inOrder ∧ runningPart.passOk = true ∧ runningPart.converterOk = true := by
  refine ⟨by decide, by decide, by decide, by decide, List.Pairwise.nil, List.Pairwise.nil, by decide, by decide⟩

end Sys2Proof.Tests
end

section
/-! SUPPORT. What a window close does to the lock, its counts and the acquisition sums (spec/02 R28, R29), and the proof of its
obligation. -/

namespace Sys2Proof.Machine

/-! ### The close goes through the lock state machine alone -/

section Close

variable (t : Tracker) (c : Closing)

@[simp] theorem Tracker.close_lock : (t.close c).lock = (t.moveLock c (t.verdict c)).lock := rfl
@[simp] theorem Tracker.close_confirm : (t.close c).confirm = (t.moveLock c (t.verdict c)).confirm := rfl
@[simp] theorem Tracker.close_hold : (t.close c).hold = (t.moveLock c (t.verdict c)).hold := rfl
@[simp] theorem Tracker.close_pEff : (t.close c).pEff = (t.moveLock c (t.verdict c)).pEff := rfl
@[simp] theorem Tracker.close_acqCount : (t.close c).acqCount = (t.moveLock c (t.verdict c)).acqCount := rfl
@[simp] theorem Tracker.close_acqN : (t.close c).acqN = (t.moveLock c (t.verdict c)).acqN := rfl
@[simp] theorem Tracker.close_acqP : (t.close c).acqP = (t.moveLock c (t.verdict c)).acqP := rfl

@[simp] theorem Tracker.moveLock_some (v : Verdict) :
    t.moveLock c (some v) = t.lockStep c.settings v (t.windowN c) (t.windowP c) := rfl

/-- A window with a verdict carries the lock after its close (R34). -/
theorem Tracker.entryOf_lock {v : Verdict} (hv : t.verdict c = some v) : (t.entryOf c).lock = (t.close c).lock := by
  simp [Tracker.entryOf, hv]

end Close

/-! ### The lock state machine outside acquisition (R28) -/

theorem Tracker.acquiring_iff (t : Tracker) :
    t.acquiring = true ↔ t.lock = .search ∧ t.source.isBias = true ∧ t.pEff = 0 := by
  simp [Tracker.acquiring, and_assoc]

/-- Acquisition is a part of SEARCH. -/
theorem Tracker.acquiring_eq_false {t : Tracker} (h : t.lock ≠ .search) : t.acquiring = false := by
  simp [Tracker.acquiring, h]

theorem Verdict.ne_short_of_rejecting {v : Verdict} (hv : v.rejecting = true) : v ≠ .short := by
  rintro rfl
  cases hv

section Table

variable (t : Tracker) (goal limit : Nat)

theorem Tracker.lockOnIn_follows_table :
    ((t.lockOnIn goal).lock, (t.lockOnIn goal).confirm, (t.lockOnIn goal).hold) =
      lockAfter t.lock t.confirm t.hold goal limit .inside := by
  cases hl : t.lock with
  | off | locked | hold => simp [Tracker.lockOnIn, lockAfter, Verdict.rejecting, hl]
  | search | lapsed =>
    simp only [Tracker.lockOnIn, Tracker.beginConfirm, lockAfter, Verdict.rejecting, hl]
    split <;> simp
  | confirm =>
    simp only [Tracker.lockOnIn, lockAfter, Verdict.rejecting, hl]
    split <;> simp [*]

theorem Tracker.lockOnReject_follows_table {v : Verdict} (hv : v.rejecting = true) :
    ((t.lockOnReject limit).lock, (t.lockOnReject limit).confirm, (t.lockOnReject limit).hold) =
      lockAfter t.lock t.confirm t.hold goal limit v := by
  have hs := Verdict.ne_short_of_rejecting hv
  cases hl : t.lock with
  | off | search | confirm | locked | lapsed => simp [Tracker.lockOnReject, lockAfter, hv, hs, hl]
  | hold =>
    simp only [Tracker.lockOnReject, lockAfter, hv, hs, hl]
    split <;> simp [*]

end Table

/-- Outside acquisition the lock state machine is the table of R28. -/
theorem Tracker.lockStep_follows_table {t : Tracker} (ha : t.acquiring = false) (g : SideSettings) (v : Verdict) (n p : Nat) :
    ((t.lockStep g v n p).lock, (t.lockStep g v n p).confirm, (t.lockStep g v n p).hold) =
      lockAfter t.lock t.confirm t.hold g.confirm g.holdLimit v := by
  simp only [Tracker.lockStep, ha]
  cases v with
  | inside => exact t.lockOnIn_follows_table g.confirm g.holdLimit
  | out | noRef | splice => exact t.lockOnReject_follows_table g.confirm g.holdLimit rfl
  | short => rfl

theorem Tracker.close_follows_table {t : Tracker} {c : Closing} {v : Verdict} (hv : t.verdict c = some v)
    (ha : t.acquiring = false) :
    ((t.close c).lock, (t.close c).confirm, (t.close c).hold) =
      lockAfter t.lock t.confirm t.hold c.settings.confirm c.settings.holdLimit v := by
  simpa [hv] using Tracker.lockStep_follows_table ha c.settings v (t.windowN c) (t.windowP c)

/-! ### Runs of rejected windows (R28) -/

section TableRows

variable {v : Verdict} (n h goal limit : Nat)

theorem lockAfter_locked_of_rejecting (hv : v.rejecting = true) : lockAfter .locked n h goal limit v = (.hold, n, 1) := by
  simp [lockAfter, hv, Verdict.ne_short_of_rejecting hv]

theorem lockAfter_hold_of_rejecting (hv : v.rejecting = true) :
    lockAfter .hold n h goal limit v = if limit < h + 1 then (.lapsed, n, 0) else (.hold, n, h + 1) := by
  simp [lockAfter, hv, Verdict.ne_short_of_rejecting hv]

theorem lockAfter_lapsed_of_rejecting (hv : v.rejecting = true) : lockAfter .lapsed n h goal limit v = (.lapsed, n, h) := by
  simp [lockAfter, hv, Verdict.ne_short_of_rejecting hv]

end TableRows

section Rejected

variable (t : Tracker) {c : Closing}

/-- Outside SEARCH a rejected window moves lock and hold count by the table's entry for some rejecting verdict. -/
theorem Tracker.close_of_rejected (hr : (t.verdict c).any (·.rejecting) = true) (hl : t.lock ≠ .search) :
    ∃ v : Verdict, v.rejecting = true ∧
      (t.close c).lock = (lockAfter t.lock t.confirm t.hold c.settings.confirm c.settings.holdLimit v).1 ∧
      (t.close c).hold = (lockAfter t.lock t.confirm t.hold c.settings.confirm c.settings.holdLimit v).2.2 := by
  obtain ⟨v, hv, hrej⟩ := (Option.any_eq_true ..).1 hr
  refine ⟨v, hrej, ?_⟩
  rw [← Tracker.close_follows_table hv (Tracker.acquiring_eq_false hl)]
  exact ⟨rfl, rfl⟩

theorem Tracker.close_of_locked_rejected (hr : (t.verdict c).any (·.rejecting) = true) (hl : t.lock = .locked) :
    (t.close c).lock = .hold ∧ (t.close c).hold = 1 := by
  obtain ⟨v, hv, hlock, hhold⟩ := t.close_of_rejected hr (by simp [hl])
  rw [hl, lockAfter_locked_of_rejecting _ _ _ _ hv] at hlock hhold
  exact ⟨hlock, hhold⟩

theorem Tracker.close_of_hold_rejected (hr : (t.verdict c).any (·.rejecting) = true) (hl : t.lock = .hold) :
    (t.hold + 1 ≤ c.settings.holdLimit → (t.close c).lock = .hold ∧ (t.close c).hold = t.hold + 1) ∧
      (c.settings.holdLimit < t.hold + 1 → (t.close c).lock = .lapsed ∧ (t.close c).hold = 0) := by
  obtain ⟨v, hv, hlock, hhold⟩ := t.close_of_rejected hr (by simp [hl])
  rw [hl, lockAfter_hold_of_rejecting _ _ _ _ hv] at hlock hhold
  refine ⟨fun hkeep => ?_, fun hlapse => ?_⟩
  · rw [if_neg (Nat.not_lt.2 hkeep)] at hlock hhold
    exact ⟨hlock, hhold⟩
  · rw [if_pos hlapse] at hlock hhold
    exact ⟨hlock, hhold⟩

theorem Tracker.close_of_lapsed_rejected (hr : (t.verdict c).any (·.rejecting) = true) (hl : t.lock = .lapsed) :
    (t.close c).lock = .lapsed ∧ (t.close c).hold = t.hold := by
  obtain ⟨v, hv, hlock, hhold⟩ := t.close_of_rejected hr (by simp [hl])
  rw [hl, lockAfter_lapsed_of_rejecting _ _ _ _ hv] at hlock hhold
  exact ⟨hlock, hhold⟩

@[simp] theorem Tracker.closes_nil : t.closes [] = t := rfl

@[simp] theorem Tracker.closes_cons (c : Closing) (cs : List Closing) : t.closes (c :: cs) = (t.close c).closes cs := rfl

variable {limit : Nat} {cs : List Closing}

/-- A lapsed lock stays lapsed while windows are rejected. -/
theorem Tracker.closes_of_lapsed (hl : t.lock = .lapsed) (hr : t.allRejected limit cs) :
    (t.closes cs).lock = .lapsed ∧ (t.closes cs).hold = t.hold := by
  induction cs generalizing t with
  | nil => exact ⟨hl, rfl⟩
  | cons c cs ih =>
    obtain ⟨hc, -, hcs⟩ := hr
    obtain ⟨hlock, hhold⟩ := t.close_of_lapsed_rejected hc hl
    exact hhold ▸ ih (t.close c) hlock hcs

/-- A held lock counts rejected windows up to the limit and lapses at the next. -/
theorem Tracker.closes_of_hold (hl : t.lock = .hold) (hh : t.hold ≤ limit) (hr : t.allRejected limit cs) :
    (t.hold + cs.length ≤ limit → (t.closes cs).lock = .hold ∧ (t.closes cs).hold = t.hold + cs.length) ∧
      (limit < t.hold + cs.length → (t.closes cs).lock = .lapsed ∧ (t.closes cs).hold = 0) := by
  induction cs generalizing t with
  | nil => exact ⟨fun _ => ⟨hl, rfl⟩, fun h => absurd h (Nat.not_lt.2 hh)⟩
  | cons c cs ih =>
    obtain ⟨hc, rfl, hcs⟩ := hr
    obtain ⟨hkeep, hlapse⟩ := t.close_of_hold_rejected hc hl
    by_cases hroom : t.hold + 1 ≤ c.settings.holdLimit
    · obtain ⟨hlock, hhold⟩ := hkeep hroom
      have hrest := ih (t.close c) hlock (by omega) hcs
      rwa [hhold, Nat.add_right_comm, Nat.add_assoc] at hrest
    · obtain ⟨hlock, hhold⟩ := hlapse (by omega)
      refine ⟨fun hle => ?_, fun _ => hhold ▸ (t.close c).closes_of_lapsed hlock hcs⟩
      rw [List.length_cons] at hle
      omega

/-- A lock survives as many rejected windows as the limit says and lapses at the next. -/
theorem Tracker.closes_of_locked (hl : t.lock = .locked) (hlim : 1 ≤ limit) (hne : cs ≠ []) (hr : t.allRejected limit cs) :
    (cs.length ≤ limit → (t.closes cs).lock = .hold ∧ (t.closes cs).hold = cs.length) ∧
      (limit < cs.length → (t.closes cs).lock = .lapsed ∧ (t.closes cs).hold = 0) := by
  cases cs with
  | nil => exact absurd rfl hne
  | cons c cs =>
    obtain ⟨hc, -, hcs⟩ := hr
    obtain ⟨hlock, hhold⟩ := t.close_of_locked_rejected hc hl
    have hrest := (t.close c).closes_of_hold hlock (hhold ▸ hlim) hcs
    rwa [hhold, Nat.add_comm] at hrest

end Rejected

/-! ### Acquisition (R29) -/

theorem SideSource.isBias_of_mem {x : SideSource} (h : x ∈ [SideSource.biasL, .biasR, .biasBoth]) : x.isBias = true := by
  simp only [List.mem_cons, List.not_mem_nil, or_false] at h
  obtain rfl | rfl | rfl := h <;> rfl

theorem clampNat_eq_max_min {lo hi : Nat} (h : lo ≤ hi) (x : Nat) : clampNat x lo hi = max lo (min hi x) := by
  unfold clampNat
  split
  · omega
  · split <;> omega

section Acquisition

variable (t : Tracker) (n p : Nat) {goal : Nat}

theorem Tracker.acquire_last (h : t.acqCount + 1 = goal) :
    t.acquire goal .inside n p =
      { t with
        pEff := max 768 (min 65535 ((2 * (t.acqP + p) + (t.acqN + n)) / (2 * (t.acqN + n))))
        acqCount := 0, acqN := 0, acqP := 0, lock := .confirm, confirm := 0 } := by
  simp [Tracker.acquire, h, clampNat_eq_max_min, roundHalfUpNat]

theorem Tracker.acquire_more (h : t.acqCount + 1 ≠ goal) :
    t.acquire goal .inside n p = { t with acqCount := t.acqCount + 1, acqN := t.acqN + n, acqP := t.acqP + p } := by
  simp [Tracker.acquire, h]

theorem Tracker.acquire_noRef : t.acquire goal .noRef n p = { t with acqCount := 0, acqN := 0, acqP := 0 } := rfl

theorem Tracker.acquire_other {v : Verdict} (hi : v ≠ .inside) (hn : v ≠ .noRef) : t.acquire goal v n p = t := by
  cases v with
  | inside => exact absurd rfl hi
  | noRef => exact absurd rfl hn
  | out | splice | short => rfl

/-- Acquisition never moves the hold count. -/
theorem Tracker.acquire_hold (v : Verdict) : (t.acquire goal v n p).hold = t.hold := by
  cases v with
  | inside =>
    by_cases h : t.acqCount + 1 = goal
    · rw [t.acquire_last n p h]
    · rw [t.acquire_more n p h]
  | noRef | out | splice | short => rfl

end Acquisition

theorem Tracker.moveLock_of_acquiring {t : Tracker} (ha : t.acquiring = true) (c : Closing) (v : Verdict) :
    t.moveLock c (some v) = t.acquire c.settings.acquire v (t.windowN c) (t.windowP c) := by
  simp [Tracker.lockStep, ha]

/-- A window closed in acquisition has no raw step (R36). -/
theorem Tracker.rawStep_of_acquiring {t : Tracker} (ha : t.acquiring = true) (c : Closing) (v : Option Verdict) :
    t.rawStep c v = none := by
  obtain ⟨-, hbias, hp⟩ := t.acquiring_iff.1 ha
  cases hs : t.source with
  | none | deck => simp [hs, SideSource.isBias] at hbias
  | biasL | biasR | biasBoth => simp [Tracker.rawStep, hs, hp]

/-! ### The obligation -/

/-- Settles O39: a close moves the lock by its state machine alone, which outside acquisition is the table of R28; a run of rejected
windows is an induction over the windows, and acquisition is a case per verdict. -/
theorem lockFollowsTheTable : Obligations.LockFollowsTheTable := by
  refine ⟨fun t c v hv ha => ⟨Tracker.close_follows_table hv ha, t.entryOf_lock c hv⟩,
    fun t limit cs hl hlim hne hr => t.closes_of_locked hl hlim hne hr, fun t c v hv hl hs hp => ?_⟩
  have ha : t.acquiring = true := t.acquiring_iff.2 ⟨hl, SideSource.isBias_of_mem hs, hp⟩
  have hmove := Tracker.moveLock_of_acquiring ha c v
  refine ⟨t.entryOf_lock c hv, Tracker.rawStep_of_acquiring ha c _, ?_, ?_, ?_, ?_, ?_⟩
  · simp only [Tracker.close_hold, hv, hmove, Tracker.acquire_hold]
  · rintro rfl hgoal
    simp [hv, hmove, Tracker.acquire_last _ _ _ hgoal, Tracker.entryOf]
  · rintro rfl hgoal
    simp [hv, hmove, Tracker.acquire_more _ _ _ hgoal, Tracker.entryOf, hl, hp]
  · rintro rfl
    simp [hv, hmove, Tracker.acquire_noRef, hl, hp]
  · intro hi hn
    simp [hv, hmove, Tracker.acquire_other _ _ _ hi hn, hl, hp]

end Sys2Proof.Machine
end

section
/-! SUPPORT. Rising crossings of a filtered track (spec/02 R20), and the proof of their obligation. -/

namespace Sys2Proof.Machine

section Crossing

variable {a b : Int}

theorem risingCrossing_of_rising (ha : a < 0) (hb : 0 ≤ b) (u : Nat) :
    risingCrossing a b (u + 1) = some (256 * u + (256 * (-a) / (b - a)).toNat) := by
  simp [risingCrossing, ha, hb]

theorem risingCrossing_of_not_rising (h : 0 ≤ a ∨ b < 0) (v : Nat) : risingCrossing a b v = none := by
  simp only [risingCrossing, ite_eq_right_iff]
  omega

/-- The crossing lies between the two samples, at the later one only when the filtered value there is 0. -/
theorem crossingFraction_bounds (ha : a < 0) (hb : 0 ≤ b) :
    0 ≤ 256 * (-a) / (b - a) ∧ 256 * (-a) / (b - a) ≤ 256 ∧ (256 * (-a) / (b - a) = 256 ↔ b = 0) := by
  have hpos : 0 < b - a := by omega
  have hle : 256 * (-a) / (b - a) ≤ 256 := Int.ediv_le_of_le_mul hpos (by omega)
  have hreach : 256 ≤ 256 * (-a) / (b - a) ↔ 256 * (b - a) ≤ 256 * (-a) := Int.le_ediv_iff_mul_le hpos
  exact ⟨Int.ediv_nonneg (by omega) (by omega), hle, by omega⟩

end Crossing

section Track

variable (f : FilteredTrack) (v : Nat) (b : Int)

/-- A track holds the value it takes, and its latest crossing is the one the value completes, if it completes one. -/
theorem FilteredTrack.take_eq : f.take v b = { f with held := some b, latest := (f.crossing v b).or f.latest } := by
  unfold FilteredTrack.take FilteredTrack.crossing
  cases f.held with
  | none => rfl
  | some a => cases hpos : risingCrossing a b v <;> simp [hpos]

theorem FilteredTrack.crossing_of_held {a : Int} (h : f.held = some a) : f.crossing v b = risingCrossing a b v := by
  simp [FilteredTrack.crossing, h]

theorem FilteredTrack.crossing_of_none_held (h : f.held = none) : f.crossing v b = none := by
  simp [FilteredTrack.crossing, h]

theorem FilteredTrack.take_of_crossing {pos : Nat} (h : f.crossing v b = some pos) :
    f.take v b = { f with held := some b, latest := some pos } := by
  simp [FilteredTrack.take_eq, h]

theorem FilteredTrack.take_of_no_crossing (h : f.crossing v b = none) : f.take v b = { f with held := some b } := by
  simp [FilteredTrack.take_eq, h]

end Track

/-- Settles O37, by whether the held value and the new one rise through 0. -/
theorem risingCrossingIsInterpolated : Obligations.RisingCrossingIsInterpolated := by
  refine ⟨fun f u a b hf => ⟨fun ha hb => ?_, fun hab => ?_⟩, fun f v b hf => ?_, fun t on nominal => ⟨rfl, rfl⟩⟩
  · have hcross := (f.crossing_of_held (u + 1) b hf).trans (risingCrossing_of_rising ha hb u)
    exact ⟨hcross, f.take_of_crossing _ _ hcross, crossingFraction_bounds ha hb⟩
  · have hcross := (f.crossing_of_held (u + 1) b hf).trans (risingCrossing_of_not_rising hab _)
    exact ⟨hcross, f.take_of_no_crossing _ _ hcross⟩
  · have hcross := f.crossing_of_none_held v b hf
    exact ⟨hcross, f.take_of_no_crossing _ _ hcross⟩

end Sys2Proof.Machine
end

section
/-! SUPPORT. The class and gain of a decided tick (spec/04 R64), and the proof of their obligation. -/

namespace Sys2Proof.Machine

/-! ### The unclamped gain -/

section Unclamped

variable {level e : Nat}

/-- Below the envelope, the level over it is less than one. -/
theorem unclampedGain_lt_of_lt (h : level < e) : unclampedGain level e < 4096 :=
  Nat.div_lt_of_lt_mul (by omega)

theorem unclampedGain_zero_envelope (level : Nat) : unclampedGain level 0 = 4096 * level := by
  simp [unclampedGain]

end Unclamped

/-! ### A record decided INSIDE -/

namespace TickRecord

variable {r : TickRecord} {level : Nat}

theorem inside_of_not_lift (hlift : r.lift = false) :
    r.inside level = { r with membership := .inside, tickClass := some .unlifted, gain := some 4096 } := by
  simp [inside, gainInside, classInside, hlift]

theorem inside_of_unclampedGain_le (hlift : r.lift = true) (hle : unclampedGain level r.envelope ≤ r.gMax) :
    r.inside level = { r with
      membership := .inside, tickClass := some .lifted, gain := some (max 4096 (unclampedGain level r.envelope)) } := by
  simp [inside, gainInside, classInside, hlift, hle]

theorem inside_of_gMax_lt (hlift : r.lift = true) (hlt : r.gMax < unclampedGain level r.envelope) :
    r.inside level = { r with membership := .inside, tickClass := some .limited, gain := some r.gMax } := by
  simp [inside, gainInside, classInside, hlift, Nat.not_le.mpr hlt]

/-- Every gain lies from 4096 to the tick's Gmax, in each of R64's rows. -/
theorem inside_gain_bounds (r : TickRecord) (level : Nat) (hmin : 4096 ≤ r.gMax) :
    ∃ gain, (r.inside level).gain = some gain ∧ 4096 ≤ gain ∧ gain ≤ r.gMax := by
  cases hlift : r.lift with
  | false => exact ⟨4096, by rw [inside_of_not_lift hlift], Nat.le_refl _, hmin⟩
  | true =>
    rcases Nat.lt_or_ge r.gMax (unclampedGain level r.envelope) with hlt | hle
    · exact ⟨r.gMax, by rw [inside_of_gMax_lt hlift hlt], hmin, Nat.le_refl _⟩
    · exact ⟨max 4096 (unclampedGain level r.envelope), by rw [inside_of_unclampedGain_le hlift hle],
        Nat.le_max_left .., Nat.max_le.mpr ⟨hmin, hle⟩⟩

/-- Lift never lowers a level: an envelope above the frozen level keeps the gain of one. -/
theorem inside_of_level_lt_envelope (hlift : r.lift = true) (hmin : 4096 ≤ r.gMax) (habove : level < r.envelope) :
    r.inside level = { r with membership := .inside, tickClass := some .lifted, gain := some 4096 } := by
  have hgain := unclampedGain_lt_of_lt habove
  rw [inside_of_unclampedGain_le hlift (by omega), Nat.max_eq_left (by omega)]

/-- An envelope of 0 is divided as 1, so a frozen level above 4 asks for more than the greatest Gmax. -/
theorem gMax_lt_unclampedGain_of_zero_envelope (hmax : r.gMax ≤ 16384) (hzero : r.envelope = 0) (hlevel : 4 < level) :
    r.gMax < unclampedGain level r.envelope := by
  rw [hzero, unclampedGain_zero_envelope]
  omega

end TickRecord

/-- Settles O41: R64's rows one by one, then the bounds and the two extreme envelopes from them. -/
theorem dropoutGainsFollowTheTable : Obligations.DropoutGainsFollowTheTable := by
  intro r level hmin hmax
  refine ⟨rfl, TickRecord.inside_of_not_lift, TickRecord.inside_of_unclampedGain_le, TickRecord.inside_of_gMax_lt,
    r.inside_gain_bounds level hmin, fun hlift habove => ?_, fun hlift hzero hlevel => ?_⟩
  · rw [TickRecord.inside_of_level_lt_envelope hlift hmin habove]
    exact ⟨rfl, rfl⟩
  · rw [TickRecord.inside_of_gMax_lt hlift (TickRecord.gMax_lt_unclampedGain_of_zero_envelope hmax hzero hlevel)]

end Sys2Proof.Machine
end

section
/-! SUPPORT. The base skew's steps and the reply of ADJUST_SKEW (spec/06 R90), and the proof of their obligation. -/

namespace Sys2Proof.Machine

/-! ### One-byte fields and codes -/

theorem field_byte (p : List Byte) (i : Nat) : field p i 1 = byteAt p i := by
  cases h : p[i]? <;> simp [field, byteAt, natOfBytes, List.take_one, h]

theorem code1_eq_singleton (n : Nat) : code1 n = [BitVec.ofNat 8 n] := by
  simp [code1, bytesOfNat]

theorem bytesOfInt_one (v : Int) : bytesOfInt 1 v = [BitVec.ofInt 8 v] := by
  simp only [bytesOfInt, bytesOfNat, Nat.pow_zero, Nat.div_one, Nat.pow_one, List.cons.injEq, and_true]
  exact BitVec.eq_of_toNat_eq (by simp [Int.emod_lt_of_pos])

theorem sideCode_le_one (x : Side) : sideCode x ≤ 1 := by
  cases x <;> decide

theorem sideOf_sideCode (x : Side) : sideOf (sideCode x) = some x := by
  cases x <;> rfl

theorem sideOf_eq_none {n : Nat} (h : 1 < n) : sideOf n = none := by
  refine List.find?_eq_none.mpr fun x _ => ?_
  have hle := sideCode_le_one x
  simp only [decide_eq_true_eq]
  omega

/-! ### The step codes and the saturation -/

/-- R90's table, by step code. -/
theorem skewStepOf_eq_getElem? (code : Nat) : skewStepOf code = ([0, 1, -1, 16, -16] : List Int)[code]? := by
  match code with
  | 0 | 1 | 2 | 3 | 4 | _ + 5 => rfl

theorem skewStepOf_eq_none {code : Nat} (h : 4 < code) : skewStepOf code = none := by
  rw [skewStepOf_eq_getElem?]
  exact List.getElem?_eq_none h

theorem le_four_of_skewStepOf {code : Nat} {step : Int} (h : skewStepOf code = some step) : code ≤ 4 := by
  refine Nat.le_of_not_lt fun hcode => ?_
  rw [skewStepOf_eq_none hcode] at h
  contradiction

theorem clampInt_eq_max_min {lo hi : Int} (h : lo ≤ hi) (v : Int) : clampInt v lo hi = max lo (min hi v) := by
  unfold clampInt
  split
  · omega
  · split <;> omega

theorem steppedSkew_eq (b step : Int) : steppedSkew b step = max (-128) (min 127 (b + step)) :=
  clampInt_eq_max_min (by decide) _

/-! ### The request's own rule -/

section Rule

variable (s : State) {p : List Byte}

theorem State.adjustSkew_eq {x : Side} {step : Int} (hside : sideOf (byteAt p 0) = some x)
    (hstep : skewStepOf (byteAt p 1) = some step) :
    let b := (s.rsp.get x).baseSkew
    s.adjustSkew p = ⟨s.putSkew x (steppedSkew b step), if steppedSkew b step = b + step then .ok else .adjusted,
      [BitVec.ofNat 8 (sideCode x), BitVec.ofInt 8 (steppedSkew b step)]⟩ := by
  simp [State.adjustSkew, field_byte, hside, hstep, storedStatus, code1_eq_singleton, bytesOfInt_one]

theorem State.adjustSkew_refused (h : sideOf (byteAt p 0) = none ∨ skewStepOf (byteAt p 1) = none) :
    s.adjustSkew p = refuse s .badValue := by
  unfold State.adjustSkew
  rw [field_byte, field_byte]
  split
  next hside hstep => simp [hside, hstep] at h
  next => rfl

end Rule

/-! ### The exchange around it -/

section Exchange

variable {s : State} {kind : Byte}

theorem State.lineReset_of_listening (h : s.listening = true) : s.clock.lineReset = false := by
  simpa using (Bool.and_eq_true_iff.mp h).1

theorem State.inFlight_replied_of_ne {k : Byte} (h : kind ≠ k) (st : Status) (p : List Byte) :
    (s.replied kind st p).inFlight k = false := by
  simp [State.inFlight, State.replied, answered, h]

/-- A reply cut short leaves what its request did, when it is of neither kind whose effect waits for the reply (R166). -/
theorem exec_selectRise_replied (h : s.clock.lineReset = false) (hdefects : kind ≠ 0x42#8) (hrestart : kind ≠ 0x7F#8)
    (st : Status) (p : List Byte) :
    exec .selectRise (s.replied kind st p) = .next { s.replied kind st p with link := ⟨.idle, [], 0, none⟩ } := by
  have hclock : (s.replied kind st p).clock.lineReset = false := h
  have hcut : (s.replied kind st p).cutShort = s.replied kind st p := by
    rw [State.cutShort, State.inFlight_replied_of_ne hdefects, State.inFlight_replied_of_ne hrestart]
    rfl
  change execSelectRise _ = _
  simp only [execSelectRise, hclock, hcut]
  rfl

theorem exec_adjustSkew_taken (h : s.listening = true) {p : List Byte} (hp : p.length = 2) :
    exec (.adjustSkew p) s = .next ((s.adjustSkew p).send 0x20) :=
  congrArg Host.Outcome.next (State.takeRequest_taken s _ _ p _ h hp)

theorem exec_adjustSkew_length (h : s.listening = true) {p : List Byte} (hp : p.length ≠ 2) :
    exec (.adjustSkew p) s = .next (s.replied 0x20 .badLength []) :=
  congrArg Host.Outcome.next (State.takeRequest_length s _ _ p _ _ h hp)

end Exchange

/-- Settles O22: the payload's two bytes name a row of R90's table or none, and the cut reply waits for no effect. -/
theorem adjustSkewStepsAndSaturates : Obligations.AdjustSkewStepsAndSaturates := by
  intro s hlisten
  refine ⟨fun x code step hrow _ _ => ⟨?_, ?_⟩, fun side code hbad => ?_, fun p hp => exec_adjustSkew_length hlisten hp⟩
  · have hstep : skewStepOf code = some step := (skewStepOf_eq_getElem? code).trans hrow
    have hcode : code % 256 = code := Nat.mod_eq_of_lt (Nat.lt_of_le_of_lt (le_four_of_skewStepOf hstep) (by decide))
    have hside : sideCode x % 256 = sideCode x := Nat.mod_eq_of_lt (Nat.lt_of_le_of_lt (sideCode_le_one x) (by decide))
    rw [exec_adjustSkew_taken hlisten rfl, s.adjustSkew_eq (x := x) (step := step), steppedSkew_eq]
    · rfl
    · simp [byteAt, hside, sideOf_sideCode]
    · simp [byteAt, hcode, hstep]
  · have hclock := State.lineReset_of_listening hlisten
    exact exec_selectRise_replied (s := s.putSkew x _) (kind := 0x20) hclock (by decide) (by decide) _ _
  · have hnone : sideOf (byteAt [side, code] 0) = none ∨ skewStepOf (byteAt [side, code] 1) = none :=
      hbad.imp sideOf_eq_none skewStepOf_eq_none
    rw [exec_adjustSkew_taken hlisten rfl, s.adjustSkew_refused hnone]
    rfl

end Sys2Proof.Machine
end

section
/-! SUPPORT. Numbers as byte strings, most significant byte first (spec/11 R176), a sample's bytes in each format (spec/08 R124), and the
proof of their obligation. -/

namespace Sys2Proof.Machine

/-! ### A number and its bytes -/

@[simp] theorem length_bytesOfNat (n v : Nat) : (bytesOfNat n v).length = n := by
  induction n with
  | zero => rfl
  | succ n ih => rw [bytesOfNat, List.length_cons, ih]

/-- The least significant byte is sent last. -/
theorem bytesOfNat_succ_eq_append (n v : Nat) : bytesOfNat (n + 1) v = bytesOfNat n (v / 256) ++ [BitVec.ofNat 8 v] := by
  induction n with
  | zero => simp only [bytesOfNat, Nat.pow_zero, Nat.div_one, List.nil_append]
  | succ n ih =>
    rw [bytesOfNat, ih, bytesOfNat, List.cons_append, Nat.div_div_eq_div_mul, Nat.pow_succ']

theorem natOfBytes_append_singleton (bs : List Byte) (b : Byte) : natOfBytes (bs ++ [b]) = natOfBytes bs * 256 + b.toNat := by
  simp only [natOfBytes, List.foldl_append, List.foldl_cons, List.foldl_nil]

@[simp] theorem natOfBytes_bytesOfNat (n v : Nat) : natOfBytes (bytesOfNat n v) = v % 256 ^ n := by
  induction n generalizing v with
  | zero => exact (Nat.mod_one v).symm
  | succ n ih =>
    rw [bytesOfNat_succ_eq_append, natOfBytes_append_singleton, ih, Nat.pow_succ', Nat.mod_mul, BitVec.toNat_ofNat]
    omega

/-! ### A signed number and its bytes -/

@[simp] theorem length_bytesOfInt (n : Nat) (v : Int) : (bytesOfInt n v).length = n :=
  length_bytesOfNat n _

theorem toNat_emod_pow (n : Nat) (v : Int) : ((v % (256 ^ n : Nat)).toNat : Int) = v % (256 ^ n : Nat) := by
  have hpos : 0 < 256 ^ n := Nat.pow_pos (by decide)
  exact Int.toNat_of_nonneg (Int.emod_nonneg v (by omega))

/-- Two's complement: the bytes' number is the value modulo the format's range. -/
@[simp] theorem natOfBytes_bytesOfInt (n : Nat) (v : Int) : (natOfBytes (bytesOfInt n v) : Int) = v % 256 ^ n := by
  rw [bytesOfInt, natOfBytes_bytesOfNat, Int.natCast_emod, toNat_emod_pow, Int.emod_emod, Int.natCast_pow]
  rfl

theorem getLast?_bytesOfInt (n : Nat) (v : Int) : (bytesOfInt (n + 1) v).getLast? = some (BitVec.ofInt 8 v) := by
  have hdvd : ((2 ^ 8 : Nat) : Int) ∣ (256 ^ (n + 1) : Nat) := Int.natCast_dvd_natCast.mpr ⟨256 ^ n, Nat.pow_succ'⟩
  rw [bytesOfInt, bytesOfNat_succ_eq_append, List.getLast?_concat, ← BitVec.ofInt_natCast, toNat_emod_pow]
  refine congrArg some (BitVec.eq_of_toInt_eq ?_)
  rw [BitVec.toInt_ofInt, BitVec.toInt_ofInt, ← Int.emod_bmod, Int.emod_emod_of_dvd v hdvd, Int.emod_bmod]

/-! ### A sample in a format -/

section Formats

variable (f : SampleFormat) (y : Int)

theorem SampleFormat.length_bytes : (f.bytes y).length = f.width :=
  length_bytesOfInt f.width _

theorem SampleFormat.natOfBytes_bytes : (natOfBytes (f.bytes y) : Int) = f.value y % 256 ^ f.width :=
  natOfBytes_bytesOfInt f.width _

/-- Rounding leaves no sample of 24 bits below the 16-bit range, so S16 saturates at the top alone. -/
theorem SampleFormat.value_s16 {y : Int} (hmin : -8388608 ≤ y) : SampleFormat.s16.value y = min 32767 ((y + 128) / 256) := by
  have hsat : SampleFormat.s16.value y = max (-32768) (min 32767 ((y + 128) / 256)) := clampInt_eq_max_min (by decide) _
  omega

theorem SampleFormat.getLast?_bytes_s32 : (SampleFormat.s32.bytes y).getLast? = some 0 := by
  have hzero : BitVec.ofInt 8 (y * 256) = 0 := (BitVec.ofInt_mul y 256).trans BitVec.mul_zero
  exact (getLast?_bytesOfInt 3 (y * 256)).trans (congrArg some hzero)

end Formats

/-! ### A frame's slot -/

section Slots

variable (f : SampleFormat) (l r : Int)

theorem frameSlot_both : frameSlot f true true l r = f.bytes l ++ f.bytes r := rfl

theorem frameSlot_left : frameSlot f true false l r = f.bytes l := List.append_nil _

theorem frameSlot_right : frameSlot f false true l r = f.bytes r := rfl

end Slots

/-- Settles O49: R124's three formats, each from its value, its width and the two's complement of its bytes. -/
theorem sampleFormatsFollowTheTable : Obligations.SampleFormatsFollowTheTable := by
  intro y hmin hmax
  have hvalue := SampleFormat.value_s16 hmin
  have hs16 := SampleFormat.natOfBytes_bytes .s16 y
  rw [hvalue] at hs16
  refine ⟨⟨hvalue, by omega, SampleFormat.length_bytes .s16 y, hs16⟩,
    ⟨rfl, SampleFormat.length_bytes .s24 y, SampleFormat.natOfBytes_bytes .s24 y⟩,
    ⟨rfl, by omega, by omega, SampleFormat.length_bytes .s32 y, SampleFormat.natOfBytes_bytes .s32 y,
      SampleFormat.getLast?_bytes_s32 y⟩,
    fun f l r => ⟨frameSlot_both f l r, frameSlot_left f l r, frameSlot_right f l r⟩⟩

end Sys2Proof.Machine
end

section
/-! SUPPORT. The line masks and the reply of CLEAR_LINES (spec/09 R137), and the proof of their obligation. -/

namespace Sys2Proof.Machine

/-! ### Line masks -/

/-- A mask below 64 names each line by the bit of its number. -/
theorem exists_lineMaskOf_eq_some {n : Nat} (h : n < 64) : ∃ v, lineMaskOf n = some v ∧ ∀ i : Fin 6, v.get i = n.testBit i := by
  refine ⟨_, if_pos h, fun i => ?_⟩
  match i with
  | 0 | 1 | 2 | 3 | 4 | 5 => rfl

theorem lineMaskOf_eq_none {n : Nat} (h : 64 ≤ n) : lineMaskOf n = none :=
  if_neg (Nat.not_lt.mpr h)

/-! ### The request's own rule -/

section Rule

variable (s : State) {p : List Byte}

/-- The lines after a CLEAR_LINES of two masks, each given by the bits of its number. -/
def State.maskedLines (clear arm : Nat) : PerLine Line :=
  s.sns.lines.mapIdx fun i l => { l with sticky := l.sticky.masked (clear.testBit i) (arm.testBit i) }

theorem State.clearLines_taken (hclear : byteAt p 0 < 64) (harm : byteAt p 1 < 64) :
    let lines := s.maskedLines (byteAt p 0) (byteAt p 1)
    s.clearLines p = ⟨{ s with sns := { s.sns with lines := lines } }, .ok,
      lines.toList.map fun l => BitVec.ofNat 8 l.sticky.code⟩ := by
  obtain ⟨clear, hclear, hclearBit⟩ := exists_lineMaskOf_eq_some hclear
  obtain ⟨arm, harm, harmBit⟩ := exists_lineMaskOf_eq_some harm
  simp [State.clearLines, State.maskedLines, field_byte, hclear, harm, hclearBit, harmBit, code1_eq_singleton,
    List.map_eq_flatMap]

theorem State.clearLines_refused (h : 64 ≤ byteAt p 0 ∨ 64 ≤ byteAt p 1) : s.clearLines p = refuse s .badValue := by
  have hnone : lineMaskOf (byteAt p 0) = none ∨ lineMaskOf (byteAt p 1) = none := h.imp lineMaskOf_eq_none lineMaskOf_eq_none
  unfold State.clearLines
  rw [field_byte, field_byte]
  split
  next hclear harm => simp [hclear, harm] at hnone
  next => rfl

end Rule

theorem exec_clearLines_taken {s : State} (h : s.listening = true) {p : List Byte} (hp : p.length = 2) :
    exec (.clearLines p) s = .next ((s.clearLines p).send 0x50) :=
  congrArg Host.Outcome.next (State.takeRequest_taken s _ _ p _ h hp)

/-- Settles O11: both masks are read or one is refused, and the cut reply waits for no effect. -/
theorem clearLinesSetsTheStickyFlags : Obligations.ClearLinesSetsTheStickyFlags := by
  intro s clear arm hlisten
  refine ⟨fun hclear harm => ⟨?_, ?_⟩, fun hbad => ?_⟩
  · rw [exec_clearLines_taken hlisten rfl, s.clearLines_taken (p := [clear, arm]) hclear harm]
    rfl
  · have hclock := State.lineReset_of_listening hlisten
    exact exec_selectRise_replied (s := { s with sns := { s.sns with lines := s.maskedLines clear.toNat arm.toNat } })
      (kind := 0x50) hclock (by decide) (by decide) _ _
  · rw [exec_clearLines_taken hlisten rfl, s.clearLines_refused (p := [clear, arm]) hbad]
    rfl

end Sys2Proof.Machine
end

section
/-! SUPPORT. The name of a cue and the three answers of DROP_CUE (spec/10 R160), and the proof of their obligation. -/

namespace Sys2Proof.Machine

/-! ### The name of a cue -/

theorem isSome_sideOf (n : Nat) : (sideOf n).isSome = decide (n ≤ 1) := by
  match n with
  | 0 | 1 => rfl
  | n + 2 => simp [sideOf_eq_none]

theorem isSome_maskOf (n : Nat) : (maskOf n).isSome = decide (0 < n ∧ n < 16) := by
  unfold maskOf
  split <;> simp [*]

/-- R157's targets, by kind: a side for each of the first four kinds, a mask that names a track for MARK, and no other kind. -/
theorem cueNamed_eq_not_badCueName (kind target : Nat) : cueNamed kind target = !badCueName kind target := by
  rw [Bool.eq_iff_iff]
  match kind with
  | 0 => simp [cueNamed, badCueName]
  | 1 | 2 | 3 | 4 => simp [cueNamed, badCueName, isSome_sideOf]
  | 5 => simp [cueNamed, badCueName, isSome_maskOf, Nat.pos_iff_ne_zero, Nat.lt_succ_iff]
  | _ + 6 => simp [cueNamed, badCueName]

theorem Cue.named_eq_decide (c : Cue) (position kind target : Nat) :
    c.named position kind target = decide (c.position = position ∧ c.body.kind = kind ∧ c.body.targetCode = target) := by
  simp [Cue.named, Bool.and_assoc]

/-- The cue that a DROP_CUE payload names: five bytes of position, the kind and the target. -/
def Cue.namedIn (p : List Byte) (c : Cue) : Bool :=
  decide (c.position = natOfBytes (p.take 5) ∧ c.body.kind = byteAt p 5 ∧ c.body.targetCode = byteAt p 6)

theorem Cue.named_fields (p : List Byte) (c : Cue) : c.named (field p 0 5) (byteAt p 5) (byteAt p 6) = c.namedIn p :=
  Cue.named_eq_decide c _ _ _

/-! ### The request's own rule -/

section Rule

variable (s : State) {p : List Byte}

/-- Cue requests pass the state check where the list of cues is in use. -/
theorem State.cuesRefused_eq_none (h : s.psc.state ∈ [.armed, .running, .draining]) : s.cuesRefused = none := by
  have hcases : s.psc.state = .armed ∨ s.psc.state = .running ∨ s.psc.state = .draining := by simpa using h
  rcases hcases with hst | hst | hst <;> rw [State.cuesRefused, hst]

theorem State.dropCue_eq :
    s.dropCue p =
      if badCueName (byteAt p 5) (byteAt p 6) then refuse s .badValue
      else if s.psc.cues.any (Cue.namedIn p) then
        ⟨{ s with psc := { s.psc with cues := s.psc.cues.filter fun c => !c.namedIn p } }, .ok, []⟩
      else refuse s .notFound := by
  simp only [State.dropCue, field_byte, Cue.named_fields, cueNamed_eq_not_badCueName]
  cases badCueName (byteAt p 5) (byteAt p 6) <;> rfl

end Rule

theorem exec_dropCue_taken {s : State} (h : s.listening = true) (hst : s.psc.state ∈ [.armed, .running, .draining])
    {p : List Byte} (hp : p.length = 7) : exec (.dropCue p) s = .next ((s.dropCue p).send 0x29) := by
  change Host.Outcome.next (s.takeRequest 0x29 7 p s.cuesRefused (s.dropCue p)) = _
  rw [s.cuesRefused_eq_none hst, State.takeRequest_taken s _ _ p _ h hp]

/-- Settles O26: the name is judged first, then looked for, and each of the three answers is sent on the state its rule leaves. -/
theorem dropCueRemovesTheNamedCue : Obligations.DropCueRemovesTheNamedCue := by
  intro s p hlisten hstate hp named
  rw [exec_dropCue_taken hlisten hstate hp, s.dropCue_eq]
  refine ⟨fun hbad => ?_, fun hgood => ⟨fun hfound => ?_, fun hmissing => ?_⟩⟩
  · rw [if_pos hbad]
    rfl
  · have hany : s.psc.cues.any (Cue.namedIn p) = true := hfound
    rw [hgood, if_neg Bool.false_ne_true, if_pos hany]
    rfl
  · have hany : s.psc.cues.any (Cue.namedIn p) = false := hmissing
    rw [hgood, hany]
    rfl

end Sys2Proof.Machine
end
section
/-! SUPPORT. What the settings requests can store: settings in their lists and ranges (spec/11 R169). -/

namespace Sys2Proof.Machine

/-! ### Enumerated fields -/

theorem mem_of_ofCode {α : Type} {code : α → Nat} {values : List α} {n : Nat} {v : α} (h : ofCode code values n = some v) :
    v ∈ values :=
  List.mem_of_find?_eq_some h

theorem mem_of_oneOf {values : List Nat} {n m : Nat} (h : oneOf values n = some m) : m ∈ values :=
  mem_of_ofCode h

/-- A value of a list with distinct codes is found by its code. -/
theorem ofCode_code {α : Type} {code : α → Nat} {values : List α} (hinj : ∀ v ∈ values, ∀ w ∈ values, code v = code w → v = w)
    {v : α} (hv : v ∈ values) : ofCode code values (code v) = some v := by
  cases h : ofCode code values (code v) with
  | none => simpa using List.find?_eq_none.mp h v hv
  | some w =>
    have hw : code w = code v := by simpa using List.find?_some h
    rw [hinj w (mem_of_ofCode h) v hv hw]

theorem ofCode_eq_none {α : Type} {code : α → Nat} {values : List α} {n : Nat} (h : ∀ v ∈ values, code v ≠ n) :
    ofCode code values n = none :=
  List.find?_eq_none.mpr fun v hv => by simpa using h v hv

/-! ### Ranges -/

theorem clampNat_mem {lo hi : Nat} (h : lo ≤ hi) (v : Nat) : lo ≤ clampNat v lo hi ∧ clampNat v lo hi ≤ hi := by
  rw [clampNat_eq_max_min h]
  omega

theorem clampPNom_range (n : Nat) : clampPNom n = 0 ∨ (768 ≤ clampPNom n ∧ clampPNom n ≤ 65535) := by
  unfold clampPNom
  split
  · exact .inl rfl
  · exact .inr (clampNat_mem (by decide) n)

/-- A side's settings with their enumerated fields in their lists are stored in their ranges. -/
theorem SideSettings.clamped_ok {g : SideSettings} (hw : g.window ∈ [256, 512, 1024, 2048]) (hs : g.speedWindow ∈ [20, 40, 80, 125])
    (hm : g.smoothing ∈ [1, 3, 5, 7]) (hd : g.debounce ∈ [1, 4, 16, 64]) : g.clamped.ok = true := by
  have hthr := clampNat_mem (lo := 256) (hi := 3584) (by decide) g.dThr
  simp only [SideSettings.ok, Bool.and_eq_true, Bool.or_eq_true, decide_eq_true_eq]
  simp only [SideSettings.clamped]
  exact ⟨⟨⟨⟨⟨⟨⟨⟨⟨⟨⟨clampPNom_range _, clampNat_mem (by decide) _⟩, hw⟩, hs⟩, hm⟩, clampNat_mem (by decide) _⟩,
    clampNat_mem (by decide) _⟩, clampNat_mem (by decide) _⟩, hthr⟩, clampNat_mem (by omega) _⟩, hd⟩, clampNat_mem (by decide) _⟩

theorem sideRequest_ok {p : List Byte} {x : Side} {g : SideSettings} (h : sideRequest p = some (x, g)) : g.clamped.ok = true := by
  simp only [sideRequest, Option.bind_eq_bind, Option.bind_eq_some_iff, Option.some.injEq, Prod.mk.injEq] at h
  obtain ⟨_, -, _, -, _, -, window, hw, speed, hs, smoothing, hm, _, -, _, -, debounce, hd, _, -, -, rfl⟩ := h
  exact SideSettings.clamped_ok (mem_of_oneOf hw) (mem_of_oneOf hs) (mem_of_oneOf hm) (mem_of_oneOf hd)

theorem foldl_bytes_lt (bs : List Byte) (start : Nat) :
    bs.foldl (fun acc b => acc * 256 + b.toNat) start < (start + 1) * 256 ^ bs.length := by
  induction bs generalizing start with
  | nil => simp
  | cons b bs ih =>
    have hb : b.toNat < 256 := b.isLt
    have hstep : (start * 256 + b.toNat + 1) * 256 ^ bs.length ≤ (start + 1) * 256 ^ (bs.length + 1) := by
      rw [Nat.pow_succ', ← Nat.mul_assoc]
      exact Nat.mul_le_mul_right _ (by omega)
    exact Nat.lt_of_lt_of_le (ih _) hstep

/-- A payload's field of `n` bytes is a number of `n` bytes. -/
theorem natOfBytes_lt (bs : List Byte) : natOfBytes bs < 256 ^ bs.length := by
  have hfold := foldl_bytes_lt bs 0
  rwa [Nat.zero_add, Nat.one_mul] at hfold

theorem field_lt (p : List Byte) (offset n : Nat) : field p offset n < 256 ^ n :=
  Nat.lt_of_lt_of_le (natOfBytes_lt _) (Nat.pow_le_pow_right (by decide) (by rw [List.length_take]; omega))

theorem passRequest_ok {p : List Byte} {g : PassSettings} (h : passRequest p = some g) : g.clamped.ok = true := by
  simp only [passRequest, Option.bind_eq_bind, Option.bind_eq_some_iff, Option.some.injEq] at h
  obtain ⟨rate, hr, factor, hf, _, -, _, -, rfl⟩ := h
  have hstall := field_lt p 4 1
  simp only [PassSettings.ok, Bool.and_eq_true, decide_eq_true_eq]
  simp only [PassSettings.clamped]
  exact ⟨⟨⟨⟨⟨mem_of_oneOf hr, mem_of_oneOf hf⟩, by omega⟩, (clampNat_mem (by decide) _).2⟩, clampNat_mem (by decide) _⟩,
    clampNat_mem (by decide) _⟩

/-! ### Streams -/

/-- The channels of a stream suit its source (spec/08 R118). -/
def StreamSource.suits : StreamSource → Bool
  | .side _ l r => l || r
  | .raw ts => !trackEmpty ts

theorem Descriptor.ok_iff (d : Descriptor) : d.ok = true ↔ d.source.suits = true ∧ d.framesPerBlock ∈ [128, 256, 512, 1024] := by
  cases hsrc : d.source <;> simp [Descriptor.ok, StreamSource.suits, hsrc]

theorem trackEmpty_trackSetOf {n : Nat} (h : 0 < n) (hn : n < 16) : trackEmpty (trackSetOf n) = false := by
  have hall : ∀ m < 16, 0 < m → trackEmpty (trackSetOf m) = false := by decide
  exact hall n hn h

theorem streamSourceOf_suits {source channels : Nat} {src : StreamSource} (h : streamSourceOf source channels = some src) :
    src.suits = true := by
  have hbits : ∀ n < 4, 0 < n → (n.testBit 0 || n.testBit 1) = true := by decide
  unfold streamSourceOf at h
  split at h
  · split at h
    next hc => obtain rfl := Option.some.inj h; exact hbits _ hc.2 hc.1
    next => cases h
  · split at h
    next hc => obtain rfl := Option.some.inj h; exact hbits _ hc.2 hc.1
    next => cases h
  · unfold maskOf at h
    split at h
    next hc => obtain rfl := Option.some.inj h; simp [StreamSource.suits, trackEmpty_trackSetOf hc.1 hc.2]
    next => cases h
  · cases h

theorem streamRequest_ok {p : List Byte} {i : Fin 8} {d : Descriptor} (h : streamRequest p = some (i, d)) : d.ok = true := by
  simp only [streamRequest, Option.bind_eq_bind, Option.bind_eq_some_iff, Option.some.injEq, Prod.mk.injEq] at h
  obtain ⟨_, -, _, -, source, hs, _, -, frames, hf, -, rfl⟩ := h
  exact (Descriptor.ok_iff _).mpr ⟨streamSourceOf_suits hs, mem_of_oneOf hf⟩

/-! ### Lines -/

theorem mem_lineList (i : Fin 6) : i ∈ lineList := by
  match i with
  | 0 | 1 | 2 | 3 | 4 | 5 => decide

theorem mem_streamList (i : Fin 8) : i ∈ streamList := by
  match i with
  | 0 | 1 | 2 | 3 | 4 | 5 | 6 | 7 => decide

/-- A list without repetition has at most one element where all its elements are one. -/
theorem length_le_one_iff {α : Type} {l : List α} (hl : l.Nodup) : l.length ≤ 1 ↔ ∀ a ∈ l, ∀ b ∈ l, a = b := by
  match l with
  | [] => simp
  | [c] => simp
  | a :: b :: l =>
    have hne : a ≠ b := (List.pairwise_cons.mp hl).1 b List.mem_cons_self
    refine ⟨fun h => absurd h (by simp), fun h => absurd (h a List.mem_cons_self b (by simp)) hne⟩

/-- At most one line holds TACHO: two that hold it are one. -/
theorem Settings.oneTacho_iff (g : Settings) :
    g.oneTacho = true ↔ ∀ i j, (g.lines.get i).action = .tacho → (g.lines.get j).action = .tacho → i = j := by
  have hnodup : (lineList.filter fun i => decide ((g.lines.get i).action = .tacho)).Nodup :=
    List.Pairwise.filter _ (by decide : lineList.Nodup)
  rw [Settings.oneTacho, decide_eq_true_eq, length_le_one_iff hnodup]
  simp only [List.mem_filter, mem_lineList, true_and, decide_eq_true_eq]
  exact ⟨fun h i j hi hj => h i hi j hj, fun h i hi j hj => h i j hi hj⟩

/-- No line holds TACHO where none is found. -/
theorem Settings.tachoLine_eq_none_iff (g : Settings) : g.tachoLine = none ↔ ∀ i, (g.lines.get i).action ≠ .tacho := by
  rw [Settings.tachoLine, List.find?_eq_none]
  simp only [mem_lineList, true_implies, decide_eq_true_eq, ne_eq]

theorem Settings.action_of_tachoLine {g : Settings} {i : Fin 6} (h : g.tachoLine = some i) : (g.lines.get i).action = .tacho := by
  simpa using List.find?_some h

/-- A line setting that makes no second TACHO line leaves at most one. -/
theorem Settings.oneTacho_set {g : Settings} (h : g.oneTacho = true) {i : Fin 6} {l : LineSetting}
    (hsecond : secondTacho g i l.action = false) : Settings.oneTacho { g with lines := g.lines.set i l } = true := by
  rw [oneTacho_iff] at h ⊢
  have hother : l.action = .tacho → ∀ j, j ≠ i → (g.lines.get j).action ≠ .tacho := by
    intro hl j hj hact
    cases ht : g.tachoLine with
    | none => exact g.tachoLine_eq_none_iff.mp ht j hact
    | some k =>
      have hk : k = j := h k j (action_of_tachoLine ht) hact
      simp [secondTacho, hl, ht, hk, hj] at hsecond
  intro j k hj hk
  by_cases hji : j = i <;> by_cases hki : k = i
  · rw [hji, hki]
  · subst hji
    simp only [PerLine.get_set_self, PerLine.get_set_of_ne _ _ hki] at hj hk
    exact absurd hk (hother hj k hki)
  · subst hki
    simp only [PerLine.get_set_self, PerLine.get_set_of_ne _ _ hji] at hj hk
    exact absurd hj (hother hk j hji)
  · simp only [PerLine.get_set_of_ne _ _ hji, PerLine.get_set_of_ne _ _ hki] at hj hk
    exact h j k hj hk

theorem lineRequest_debounce {p : List Byte} {i : Fin 6} {l : LineSetting} (h : lineRequest p = some (i, l)) :
    l.debounce ∈ [0, 32, 512, 8192] := by
  simp only [lineRequest, Option.bind_eq_bind, Option.bind_eq_some_iff, Option.some.injEq, Prod.mk.injEq] at h
  obtain ⟨_, -, _, -, _, -, debounce, hd, _, -, -, rfl⟩ := h
  exact mem_of_oneOf hd

/-! ### One value of a container replaced -/

theorem PerSide.all_set {α : Type} {p : α → Bool} {v : PerSide α} (h : v.toList.all p = true) {x : α} (hx : p x = true) (i : Side) :
    (v.set i x).toList.all p = true := by
  simp only [PerSide.toList, List.all_cons, List.all_nil, Bool.and_eq_true] at h ⊢
  cases i <;> simp_all [PerSide.set]

theorem PerStream.all_set {α : Type} {p : α → Bool} {v : PerStream α} (h : v.toList.all p = true) {x : α} (hx : p x = true)
    (i : Fin 8) : (v.set i x).toList.all p = true := by
  simp only [PerStream.toList, List.all_cons, List.all_nil, Bool.and_eq_true] at h ⊢
  match i with
  | 0 | 1 | 2 | 3 | 4 | 5 | 6 | 7 => simp_all [PerStream.set]

theorem PerLine.all_set {α : Type} {p : α → Bool} {v : PerLine α} (h : v.toList.all p = true) {x : α} (hx : p x = true)
    (i : Fin 6) : (v.set i x).toList.all p = true := by
  simp only [PerLine.toList, List.all_cons, List.all_nil, Bool.and_eq_true] at h ⊢
  match i with
  | 0 | 1 | 2 | 3 | 4 | 5 => simp_all [PerLine.set]

/-! ### The settings as a whole -/

theorem Settings.ok_iff (g : Settings) :
    g.ok = true ↔ g.sides.toList.all (·.ok) = true ∧ g.pass.ok = true ∧ g.streams.toList.all (·.ok) = true ∧
      (g.lines.toList.all fun l => decide (l.debounce ∈ [0, 32, 512, 8192])) = true ∧ g.oneTacho = true := by
  simp only [Settings.ok, Bool.and_eq_true, and_assoc]

end Sys2Proof.Machine
end
section
/-! SUPPORT. What a step is made of: the few events that every command and every idle step run one after another. A property that each
of these events keeps is kept by every step. -/

namespace Sys2Proof.Machine

theorem exists_three_of_length {α : Type} {l : List α} (h : l.length = 3) : ∃ a b c, l = [a, b, c] := by
  match l, h with
  | [a, b, c], _ => exact ⟨a, b, c, rfl⟩

/-- The ranges of the sense unit's counts (spec/09 R140, R144, R146). -/
def SenseUnit.inRange (u : SenseUnit) : Prop :=
  u.splices.length ≤ 8 ∧ u.discarded ≤ 255 ∧ u.tacho ≤ 65535 ∧ ∀ t ∈ u.tLast, 1 ≤ t ∧ t ≤ 65535

/-! ### The sense unit's moves keep its ranges -/

namespace SenseUnit

variable {u : SenseUnit}

theorem inRange_measure (hu : u.inRange) : u.measure.inRange := by
  obtain ⟨hsplices, hdiscarded, htacho, hlast⟩ := hu
  unfold measure
  split
  · exact ⟨hsplices, hdiscarded, Nat.zero_le _, fun t ht => by simp at ht; omega⟩
  · exact ⟨hsplices, hdiscarded, Nat.zero_le _, hlast⟩

theorem inRange_countDown (hu : u.inRange) : u.countDown.inRange := by
  obtain ⟨hsplices, hrest⟩ := hu
  refine ⟨?_, hrest⟩
  rw [countDown, List.length_map]
  exact Nat.le_trans (List.length_filter_le ..) hsplices

theorem inRange_countTicks (hu : u.inRange) (n : Nat) : (u.countTicks n).inRange := by
  obtain ⟨hsplices, hdiscarded, htacho, hlast⟩ := hu
  refine ⟨hsplices, hdiscarded, ?_, hlast⟩
  simp only [countTicks]
  split
  · exact Nat.min_le_left ..
  · exact htacho

theorem inRange_endStall (hu : u.inRange) (timer : Option Nat) : (u.endStall timer).inRange := by
  obtain ⟨hsplices, hdiscarded, -, hlast⟩ := hu
  exact ⟨hsplices, hdiscarded, Nat.zero_le _, hlast⟩

theorem inRange_beginStall (hu : u.inRange) : u.beginStall.inRange := by
  obtain ⟨-, hdiscarded, htacho, hlast⟩ := hu
  exact ⟨Nat.zero_le _, hdiscarded, htacho, hlast⟩

end SenseUnit

/-! ### What the tests of an event say, and the requests that only read -/

section Tests

variable {s : State}

theorem State.running_of_atLimit (h : s.atLimit = true) : s.psc.state = .running := by
  simp only [State.atLimit, Bool.and_eq_true, decide_eq_true_eq] at h
  exact h.1

theorem State.draining_of_completing (h : s.completing = true) : s.psc.state = .draining := by
  simp only [State.completing, Bool.and_eq_true, decide_eq_true_eq] at h
  exact h.1

theorem State.running_of_stallArmed (h : s.stallArmed = true) : s.psc.state = .running := by
  simp only [State.stallArmed, Bool.and_eq_true, decide_eq_true_eq] at h
  exact h.1.1

theorem State.capturing_iff : s.capturing = true ↔ s.cfe.converter = .capturing ∧ s.crg.w < Config.captureLimit := by
  simp only [State.capturing, Bool.and_eq_true, decide_eq_true_eq]

/-- The limit event is due at the limit alone. -/
theorem State.atLimit_of_due (h : s.due = some .limit) : s.atLimit = true := by
  unfold State.due at h
  repeat' split at h
  all_goals simp_all

/-- The completion of draining is due when every stream is done. -/
theorem State.completing_of_due (h : s.due = some .completion) : s.completing = true := by
  unfold State.due at h
  repeat' split at h
  all_goals simp_all

theorem State.fetchBlock_state (s : State) : s.fetchBlock.state = s := by
  unfold State.fetchBlock
  split <;> rfl

theorem State.fetchNotice_state (s : State) : s.fetchNotice.state = s := by
  unfold State.fetchNotice
  split <;> rfl

theorem State.readSkew_state (s : State) (p : List Byte) : (s.readSkew p).state = s := by
  unfold State.readSkew
  split <;> rfl

end Tests

/-! ### The principle -/

/-- A property that every event of the part keeps, each in the states where the part raises it. The clock and the link may change in
every event. An event left out here is one whose frame lemma shows that it touches nothing the property reads. -/
structure KeptByEvents (P : State → Prop) : Prop where
  clock (s : State) (c : Clock) : P s → P { s with clock := c } := by intros; simp_all
  link (s : State) (l : LinkPort) : P s → P { s with link := l } := by intros; simp_all
  notify (s : State) (b : NoticeBody) (o : Nat) : P s → P (s.notify b o) := by intros; simp_all
  report (s : State) (r : Report) : P s → P (s.report r) := by intros; simp_all
  sense (s : State) (u : SenseUnit) : (s.sns.inRange → u.inRange) → P s → P { s with sns := u } := by intros; simp_all
  store (s : State) (g : Settings) : (s.psc.stored.ok = true → g.ok = true) → P s → P (s.store g) := by intros; simp_all
  putSkew (s : State) (x : Side) (b : Int) : -128 ≤ b → b ≤ 127 → P s → P (s.putSkew x b) := by intros; simp_all
  postCue (s : State) (p : List Byte) : s.cuesRefused = none → P s → P (s.postCue p).state
  dropCues (s : State) (keep : Cue → Bool) : P s → P { s with psc := { s.psc with cues := s.psc.cues.filter keep } } := by intros; simp_all
  armPass (s : State) : P s → P s.armPass
  startRequest (s : State) : s.psc.state = .armed → P s → P s.startRequest := by intros; simp_all
  returnToIdle (s : State) : s.psc.state = .armed → P s → P s.returnToIdle := by intros; simp_all
  endCapture (s : State) (c : EndCause) : s.psc.state = .running → P s → P (s.endCapture c) := by intros; simp_all
  abortRunning (s : State) : s.psc.state = .running → P s → P s.abortRunning := by intros; simp_all
  abortDraining (s : State) : s.psc.state = .draining → P s → P s.abortDraining := by intros; simp_all
  completeDraining (s : State) : s.psc.state = .draining → P s → P s.completeDraining := by intros; simp_all
  takeDefects (s : State) : P s → P { s with dfl := { s.dfl with entries := carryFirst takeLimit s.dfl.entries } } := by intros; simp_all
  clearCarried (s : State) : P s → P { s with dfl := s.dfl.clearCarried } := by intros; simp_all
  removeCarried (s : State) : P s → P { s with dfl := s.dfl.removeCarried } := by intros; simp_all
  forgetLost (s : State) : P s → P { s with notices := { s.notices with lost := 0 } } := by intros; simp_all
  removeNotice (s : State) : P s → P { s with notices := { s.notices with queue := s.notices.queue.tail } } := by intros; simp_all
  discard (s : State) : P s → P { s with dfl := .empty, oq := .empty } := by intros; simp_all
  freeSlot (s : State) : P s → P s.freeSlot := by intros; simp_all
  grantSlot (s : State) : P s → P s.grantSlot := by intros; simp_all
  restartPart (s : State) : P s → P s.restartPart
  lineResetPart (s : State) (held : Bool) (levels : PerLine Bool) : P s → P (s.lineResetPart held levels)
  settle (s : State) (n : Nat) : s.cfe.converter = .settling → 1 ≤ n → n ≤ s.cfe.settleCount → P s →
    P { s with cfe := { s.cfe with settleCount := n } } := by intros; simp_all
  settleEnd (s : State) : s.cfe.converter = .settling → P s → P s.settleEnd := by intros; simp_all
  gather (s : State) (x : PerTrack (BitVec 24)) : s.cfe.converter = .capturing → s.cfe.gathered.length ≠ 3 → P s →
    P { s with cfe := { s.cfe with gathered := s.cfe.gathered ++ [x], wideCount := s.cfe.wideCount + 1 } } := by intros; simp_all
  group (s : State) (g : WideGroup) : s.capturing = true → P s → P (s.group g) := by intros; simp_all
  testGates (s : State) : P s → P s.testGates := by intros; simp_all
  frame (s : State) (x : Side) : P s → P (s.frame x) := by intros; simp_all
  takeGroup (s : State) (i : Fin 8) (ts : TrackSet) : P s → P (s.takeGroup i ts) := by intros; simp_all

/-- A request taken keeps what its own rule keeps, where the pass state admits the request. -/
theorem State.takeRequest_keeps {P : State → Prop} {s : State} {kind : Byte} {n : Nat} {p : List Byte} {r : Option Status}
    {a : Answer} (hlink : ∀ (t : State) (l : LinkPort), P t → P { t with link := l }) (hs : P s) (ha : r = none → P a.state) :
    P (s.takeRequest kind n p r a) := by
  cases r with
  | none => exact s.takeRequest_ind kind n p none a hs hlink (ha rfl)
  | some st => exact s.takeRequest_ind kind n p (some st) (refuse s st) hs hlink hs

namespace KeptByEvents

variable {P : State → Prop} (h : KeptByEvents P) {s : State}
include h

/-! ### The sense unit's events -/

theorem lines (v : PerLine Line) (hs : P s) : P { s with sns := { s.sns with lines := v } } :=
  h.sense s _ id hs

theorem produceSplices (untimed : Bool) (n : Nat) (hs : P s) : P (s.produceSplices untimed n) := by
  induction n generalizing s with
  | zero => exact hs
  | succ n ih => exact ih (h.report s _ hs)

theorem spliceEvent (hs : P s) : P s.spliceEvent := by
  unfold State.spliceEvent
  split
  · exact h.report s _ hs
  · split
    · exact h.report s _ hs
    · split
      · exact h.report s _ hs
      · split
        · exact h.report s _ hs
        next hroom =>
          have hlt : s.sns.splices.length < 8 := Nat.not_le.mp hroom
          refine h.sense s _ (fun hu => ⟨?_, hu.2⟩) hs
          simp only [List.length_append, List.length_cons, List.length_nil]
          omega

theorem tachoEvent (i : Fin 6) (hs : P s) : P (s.tachoEvent i) := by
  unfold State.tachoEvent
  split
  · exact h.notify _ _ _ (h.sense s _ (fun hu => SenseUnit.inRange_endStall hu _) hs)
  · exact h.produceSplices _ _ (h.sense s _ (fun hu => SenseUnit.inRange_countDown (SenseUnit.inRange_measure hu)) hs)

theorem declareStall (hrun : s.psc.state = .running) (hs : P s) : P s.declareStall := by
  have hflushed := h.produceSplices true s.sns.splices.length (h.sense s _ SenseUnit.inRange_beginStall hs)
  unfold State.declareStall
  cases s.psc.pass.tachoLine with
  | none =>
    simp only
    split
    · exact h.endCapture _ _ (by simpa using hrun) hflushed
    · exact hflushed
  | some i =>
    simp only
    split
    · exact h.endCapture _ _ (by simpa using hrun) (h.notify _ _ _ hflushed)
    · exact h.notify _ _ _ hflushed

theorem tripLine (i : Fin 6) (hs : P s) : P (s.tripLine i) := by
  unfold State.tripLine
  simp only
  split
  · split
    · exact h.notify _ _ _ (h.lines _ hs)
    · exact h.lines _ hs
  · exact hs

theorem lineAction (i : Fin 6) (hs : P s) : P (s.lineAction i) := by
  unfold State.lineAction
  cases (s.psc.pass.lines.get i).action with
  | none => exact hs
  | tacho => exact iteInduction (fun _ => h.tachoEvent i hs) fun _ => hs
  | start => exact iteInduction (fun ha => h.startRequest s ha hs) fun _ => hs
  | stop =>
    exact iteInduction (fun ha => h.returnToIdle s ha hs) fun _ =>
      iteInduction (fun hr => h.endCapture s _ hr hs) fun _ => hs
  | mark => exact iteInduction (fun _ => h.report s _ hs) fun _ => hs
  | splice => exact iteInduction (fun _ => h.spliceEvent hs) fun _ => hs

theorem acceptChange (i : Fin 6) (hs : P s) : P (s.acceptChange i) := by
  unfold State.acceptChange
  exact iteInduction (fun _ => h.lineAction i (h.tripLine i (h.lines _ hs))) fun _ => h.lines _ hs

theorem sampleLine (i : Fin 6) (high : Bool) (hs : P s) : P (s.sampleLine i high) := by
  unfold State.sampleLine
  exact iteInduction (fun _ => h.lines _ hs) fun _ =>
    iteInduction (fun _ => h.acceptChange i hs) fun _ => h.lines _ hs

theorem tickLines (hs : P s) : P s.tickLines :=
  List.foldlRecOn _ _ hs fun _ ht i _ => h.sampleLine i _ ht

theorem tickSense (hs : P s) : P s.tickSense := by
  unfold State.tickSense
  refine iteInduction (fun hrun => ?_) fun _ => hs
  have hticked : P { s with sns := s.sns.countTicks 1 } := h.sense s _ (fun hu => SenseUnit.inRange_countTicks hu 1) hs
  simp only
  split
  · exact iteInduction (fun _ => h.declareStall hrun hticked) fun _ =>
      h.sense { s with sns := s.sns.countTicks 1 } _ id hticked
  · exact hticked

theorem passTicks (hs : P s) : P s.passTicks :=
  h.sense s _ (fun hu => SenseUnit.inRange_countTicks hu _) hs

/-! ### The converters and the events that are due -/

theorem convert (x : PerTrack (BitVec 24)) (hc : s.capturing = true) (hs : P s) : P (s.convert x) := by
  unfold State.convert
  split
  · exact h.group s _ hc hs
  next hthree =>
    refine h.gather s x (State.capturing_iff.mp hc).1 (fun hlen => ?_) hs
    obtain ⟨a, b, c, habc⟩ := exists_three_of_length hlen
    exact hthree a b c habc

theorem tickConverters (hs : P s) : P s.tickConverters := by
  unfold State.tickConverters
  split
  · exact hs
  · exact hs
  next hconv =>
    refine iteInduction (fun _ => h.settleEnd s hconv hs) fun hcount => ?_
    exact h.settle s _ hconv (Nat.pos_of_ne_zero hcount) (Nat.sub_le ..) hs
  next hconv =>
    exact iteInduction (fun hw => h.convert _ (State.capturing_iff.mpr ⟨hconv, hw⟩) hs) fun _ => hs

theorem tickBlocks (hs : P s) : P s.tickBlocks := by
  unfold State.tickBlocks
  exact iteInduction (fun _ => h.tickSense (h.tickConverters hs)) fun _ => h.tickConverters hs

theorem wideTick (hs : P s) : P s.wideTick :=
  h.clock _ _ (h.tickLines (h.tickBlocks hs))

theorem takeDue {e : DueEvent} (hdue : s.due = some e) (hs : P s) : P (s.takeDue e) := by
  cases e with
  | limit => exact h.endCapture s _ (State.running_of_atLimit (State.atLimit_of_due hdue)) hs
  | grant => exact h.testGates _ (h.grantSlot s hs)
  | frame x => exact h.testGates _ (h.frame s x hs)
  | take i =>
    unfold State.takeDue
    simp only
    split
    · exact h.testGates _ (h.takeGroup s _ _ hs)
    · exact hs
  | completion => exact h.completeDraining s (State.draining_of_completing (State.completing_of_due hdue)) hs

theorem idle (hs : P s) : P s.idle := by
  unfold State.idle
  refine iteInduction (fun _ => hs) fun _ => ?_
  split
  · next hdue => exact h.takeDue hdue hs
  · exact h.wideTick hs

/-! ### Requests -/

theorem setSide (p : List Byte) (hs : P s) : P (s.setSide p).state := by
  unfold State.setSide
  split
  · exact hs
  next x g hreq =>
    refine h.store s _ (fun hok => ?_) hs
    obtain ⟨hsides, hrest⟩ := (Settings.ok_iff _).mp hok
    exact (Settings.ok_iff _).mpr ⟨PerSide.all_set hsides (sideRequest_ok hreq) x, hrest⟩

theorem setPass (p : List Byte) (hs : P s) : P (s.setPass p).state := by
  unfold State.setPass
  split
  · exact hs
  next g hreq =>
    refine h.store s _ (fun hok => ?_) hs
    obtain ⟨hsides, -, hrest⟩ := (Settings.ok_iff _).mp hok
    exact (Settings.ok_iff _).mpr ⟨hsides, passRequest_ok hreq, hrest⟩

theorem setStream (p : List Byte) (hs : P s) : P (s.setStream p).state := by
  unfold State.setStream
  split
  · exact hs
  next i d hreq =>
    refine h.store s _ (fun hok => ?_) hs
    obtain ⟨hsides, hpass, hstreams, hrest⟩ := (Settings.ok_iff _).mp hok
    exact (Settings.ok_iff _).mpr ⟨hsides, hpass, PerStream.all_set hstreams (streamRequest_ok hreq) i, hrest⟩

theorem setLine (p : List Byte) (hs : P s) : P (s.setLine p).state := by
  unfold State.setLine
  split
  · exact hs
  next i l hreq =>
    split
    · exact hs
    next hsecond =>
      refine h.lines _ (h.store s _ (fun hok => ?_) hs)
      obtain ⟨hsides, hpass, hstreams, hlines, hone⟩ := (Settings.ok_iff _).mp hok
      refine (Settings.ok_iff _).mpr ⟨hsides, hpass, hstreams, PerLine.all_set hlines ?_ i,
        Settings.oneTacho_set hone (Bool.not_eq_true _ ▸ hsecond)⟩
      simpa using lineRequest_debounce hreq

theorem adjustSkew (p : List Byte) (hs : P s) : P (s.adjustSkew p).state := by
  unfold State.adjustSkew
  split
  next x step _ _ =>
    have hstep := steppedSkew_eq (s.rsp.get x).baseSkew step
    exact h.putSkew s x _ (by omega) (by omega) hs
  · exact hs

theorem dropCue (p : List Byte) (hs : P s) : P (s.dropCue p).state := by
  unfold State.dropCue
  exact iteInduction (motive := fun a : Answer => P a.state)
    (fun _ => iteInduction (motive := fun a : Answer => P a.state) (fun _ => h.dropCues s _ hs) fun _ => hs) fun _ => hs

theorem arm (hs : P s) : P s.arm.state := by
  unfold State.arm
  split
  · exact hs
  · exact h.armPass s hs

theorem start (hr : s.startRefused = none) (hs : P s) : P s.start.state := by
  unfold State.start
  split
  · exact hs
  next hfresh =>
    refine h.startRequest s ?_ hs
    cases hst : s.psc.state with
    | armed => rfl
    | running => simp [hst] at hfresh
    | idle | draining | ended => simp [State.startRefused, hst] at hr

theorem stop (hs : P s) : P s.stop.state := by
  unfold State.stop State.stopRequest
  simp only
  split
  next hst => exact h.returnToIdle s hst hs
  next hst => exact h.endCapture s _ hst hs
  all_goals exact hs

theorem abort (hs : P s) : P s.abort.state := by
  unfold State.abort State.abortRequest
  simp only
  split
  next hst => exact h.returnToIdle s hst hs
  next hst => exact h.abortRunning s hst hs
  next hst => exact h.abortDraining s hst hs
  all_goals exact hs

theorem clearLines (p : List Byte) (hs : P s) : P (s.clearLines p).state := by
  unfold State.clearLines
  split
  · exact h.lines _ hs
  · exact hs

/-- A request taken by a rule that keeps the property keeps it. -/
theorem request {kind : Byte} {n : Nat} {p : List Byte} {r : Option Status} {a : Answer} (hs : P s) (ha : r = none → P a.state) :
    P (s.takeRequest kind n p r a) :=
  State.takeRequest_keeps h.link hs ha

theorem reject (kind : Byte) (st : Status) (hs : P s) : P (s.rejectRequest kind st) :=
  iteInduction (fun _ => h.link _ _ hs) fun _ => hs

theorem cutShort (hs : P s) : P s.cutShort :=
  iteInduction (fun _ => h.clearCarried s hs) fun _ => iteInduction (fun _ => h.restartPart s hs) fun _ => hs

/-! ### Every command and every step -/

/-- What a command leaves. -/
theorem exec {i : Instr} {t : State} (hs : P s) (he : exec i s = .next t) : P t := by
  cases i <;> obtain rfl := Host.Outcome.next.inj he
  case ident => exact h.request hs fun _ => hs
  case setSide p => exact h.request hs fun _ => h.setSide p hs
  case setPass p => exact h.request hs fun _ => h.setPass p hs
  case setStream p => exact h.request hs fun _ => h.setStream p hs
  case setLine p => exact h.request hs fun _ => h.setLine p hs
  case adjustSkew p => exact h.request hs fun _ => h.adjustSkew p hs
  case readSkew p => exact h.request hs fun _ => (s.readSkew_state p).symm ▸ hs
  case postCue p => exact h.request hs fun hr => h.postCue s p hr hs
  case dropCue p => exact h.request hs fun _ => h.dropCue p hs
  case arm => exact h.request hs fun _ => h.arm hs
  case start => exact h.request hs fun hr => h.start hr hs
  case stop => exact h.request hs fun _ => h.stop hs
  case abort => exact h.request hs fun _ => h.abort hs
  case fetchBlock => exact h.request hs fun _ => s.fetchBlock_state.symm ▸ hs
  case fetchNotice => exact h.request hs fun _ => s.fetchNotice_state.symm ▸ hs
  case takeDefects => exact h.request hs fun _ => h.takeDefects s hs
  case readStatus => exact h.request hs fun _ => h.forgetLost s hs
  case clearLines p => exact h.request hs fun _ => h.clearLines p hs
  case discard => exact h.request hs fun _ => h.discard s hs
  case restart => exact h.request hs fun _ => hs
  case badKindRequest => exact h.reject _ _ hs
  case lengthAbove512 => exact h.reject _ _ hs
  case checkFailedRequest => exact h.reject _ _ hs
  case selectFall => exact iteInduction (fun _ => h.link s _ hs) fun _ => hs
  case selectRise => exact iteInduction (fun _ => hs) fun _ => h.link _ _ (h.cutShort hs)
  case blockRemoval => exact iteInduction (fun _ => h.freeSlot _ (h.link s _ hs)) fun _ => hs
  case noticeRemoval => exact iteInduction (fun _ => h.removeNotice _ (h.link s _ hs)) fun _ => hs
  case defectRemoval => exact iteInduction (fun _ => h.removeCarried _ (h.link s _ hs)) fun _ => hs
  case restartEffect => exact iteInduction (fun _ => h.restartPart _ (h.link s _ hs)) fun _ => hs
  case lineReset => exact h.lineResetPart s _ _ hs
  case resetRelease => exact iteInduction (fun _ => h.lineResetPart s _ _ hs) fun _ => hs
  case settleEnd => exact iteInduction (fun hc => h.settleEnd s hc hs) fun _ => hs
  case groupEvent g => exact iteInduction (fun hc => h.group _ g hc (h.passTicks hs)) fun _ => hs
  case limitEvent => exact iteInduction (fun hl => h.endCapture s _ (State.running_of_atLimit hl) hs) fun _ => hs
  case completionOfDraining =>
    exact iteInduction (fun hd => h.completeDraining s (State.draining_of_completing hd) hs) fun _ => hs
  case produceFrame x =>
    exact iteInduction (fun _ => h.testGates _ (h.frame s x hs)) fun _ => h.testGates s hs
  case takeSampleGroup i =>
    split
    · exact h.testGates _ (h.takeGroup s _ _ hs)
    · exact hs
  case slotGrant => exact h.testGates _ (h.grantSlot s hs)
  case lineChangeAccepted i => exact iteInduction (fun _ => hs) fun _ => h.acceptChange i hs
  case stallExpiry => exact iteInduction (fun ha => h.declareStall (State.running_of_stallArmed ha) hs) fun _ => hs

/-- A property that every event keeps is kept by every step, where the queue of commands has no part in it. -/
theorem step {t : State} (hs : P s) (he : Machine.step s = .next t)
    (hqueue : ∀ (s : State) (l : List Instr), P s → P { s with pending := l } := by exact fun _ _ h => h) : P t := by
  unfold Machine.step at he
  split at he
  · exact h.exec (hqueue s _ hs) he
  · obtain rfl := Host.Outcome.next.inj he
    exact h.idle hs

end KeptByEvents
end Sys2Proof.Machine
end
section
/-! SUPPORT. The invariants that frame lemmas show at once: the capture rings and the pass state, and what the reset state has. -/

namespace Sys2Proof.Machine

/-! ### What POST_CUE can change -/

/-- POST_CUE changes the cue list alone, if it changes anything. -/
theorem State.postCue_state (s : State) (p : List Byte) :
    (s.postCue p).state = s ∨ ∃ q b, cueRequest p = some (q, b) ∧
      (s.psc.cues.any (·.same ⟨q, b.clamped, s.cueLate q b.clamped⟩) = true ∨ s.psc.cues.length < Config.cueEntries) ∧
      (s.postCue p).state =
        { s with psc := { s.psc with cues := cuePut ⟨q, b.clamped, s.cueLate q b.clamped⟩ s.psc.cues } } := by
  unfold State.postCue
  split
  · exact .inl rfl
  next q b hreq =>
    simp only
    split
    next hroom => exact .inr ⟨q, b, hreq, by simpa using hroom, rfl⟩
    next => exact .inl rfl

/-- POST_CUE keeps everything but the pass controller. -/
theorem State.postCue_keeps (s : State) (p : List Byte) : (s.postCue p).state = { s with psc := (s.postCue p).state.psc } := by
  obtain h | ⟨q, b, -, -, h⟩ := s.postCue_state p <;> rw [h]

/-! ### Capture rings (spec/01 R11) -/

/-- A group event writes each ring at a slot below 65,536. -/
theorem ringWf_group {s : State} (h : s.crg.rings.toList.all ringWf = true) (g : WideGroup) :
    (s.group g).crg.rings.toList.all ringWf = true := by
  obtain ⟨-, -, hrings⟩ := s.group_sets g
  have hslot : s.crg.w % Config.ringSlots < Config.ringSlots := Nat.mod_lt _ (by decide)
  simp only [PerTrack.toList, List.all_cons, List.all_nil, Bool.and_true, Bool.and_eq_true] at h
  obtain ⟨h1, h2, h3, h4⟩ := h
  simp [hrings, PerTrack.toList, PerTrack.mapIdx, ringWf_ringWrite, h1, h2, h3, h4, hslot]

theorem keptByEvents_ringsOk : KeptByEvents fun s => s.crg.rings.toList.all ringWf = true where
  postCue s p _ h := by rw [State.postCue_keeps]; exact h
  armPass s _ := rfl
  restartPart s _ := rfl
  lineResetPart s _ _ _ := rfl
  group s g _ h := ringWf_group h g

/-- Settles O55: ARM, RESTART and line reset clear the rings, a group event writes each at one slot, and every other event leaves them. -/
theorem stepKeepsTheRings : Obligations.StepKeepsTheRings :=
  fun _ _ hs ht => keptByEvents_ringsOk.step hs ht

end Sys2Proof.Machine
end
section
/-! SUPPORT. The pass state's agreement with the blocks (spec/01 R1 to R7, spec/10 R148) as one table, what the events of a pass do to it,
and the proof that every step keeps it. -/

namespace Sys2Proof.Machine

/-- What the blocks hold in each pass state: end cause, start-pending flag, cues, converters, settle count, group gathered, w and E. -/
def passFits (st : PassState) (cause : Option EndCause) (pending : Bool) (cues : List Cue) (conv : ConverterState)
    (count : Nat) (gathered : List (PerTrack (BitVec 24))) (w : Nat) (e : Option Nat) : Prop :=
  match st with
  | .idle => cause = none ∧ pending = false ∧ cues = [] ∧ conv = .stopped ∧ count = 0 ∧ gathered = [] ∧ w = 0 ∧ e = none
  | .armed =>
    cause = none ∧ (conv = .settling ∧ 1 ≤ count ∧ count ≤ Config.settleLength ∨ conv = .settled ∧ count = 0 ∧ pending = false) ∧
      gathered = [] ∧ w = 0 ∧ e = none
  | .running =>
    cause = none ∧ pending = false ∧ conv = .capturing ∧ count = 0 ∧ gathered.length < 4 ∧ w ≤ Config.captureLimit ∧ e = none
  | .draining =>
    cause.isSome = true ∧ pending = false ∧ conv = .stopped ∧ count = 0 ∧ gathered = [] ∧ w ≤ Config.captureLimit ∧ e = some w
  | .ended =>
    cause.isSome = true ∧ pending = false ∧ cues = [] ∧ conv = .stopped ∧ count = 0 ∧ gathered = [] ∧ w ≤ Config.captureLimit ∧
      e = some w

/-- The table over the fields of a state. -/
def State.passTable (s : State) : Prop :=
  passFits s.psc.state s.psc.cause s.psc.startPending s.psc.cues s.cfe.converter s.cfe.settleCount s.cfe.gathered s.crg.w
    s.crg.e

/-- The two invariants of the pass are the table. -/
theorem State.passTable_iff (s : State) : s.passTable ↔ s.passOk = true ∧ s.converterOk = true := by
  unfold passTable passFits passOk converterOk
  cases s.psc.state with
  | armed =>
    cases hc : s.cfe.converter <;> cases hp : s.psc.startPending <;> simp
    all_goals grind
  | idle | running | draining | ended =>
    simp only [Bool.and_eq_true, Bool.not_eq_true', decide_eq_true_eq]
    constructor
    · intro h
      simp [h]
    · rintro ⟨h, hcount, hgather⟩
      simp_all

/-- Cues may leave the list in every pass state. -/
theorem passFits_of_sublist {st : PassState} {cause : Option EndCause} {pending : Bool} {cues cues' : List Cue} {conv : ConverterState}
    {count : Nat} {gathered : List (PerTrack (BitVec 24))} {w : Nat} {e : Option Nat}
    (h : passFits st cause pending cues conv count gathered w e) (hsub : cues'.Sublist cues) :
    passFits st cause pending cues' conv count gathered w e := by
  cases st with
  | armed | running | draining => exact h
  | idle | ended =>
    unfold passFits at h ⊢
    simp only at h ⊢
    have hnil : cues' = [] := List.sublist_nil.mp (h.2.2.1 ▸ hsub)
    grind

/-- The converters settle in ARMED alone. -/
theorem State.passTable.armed_of_settling {s : State} (h : s.passTable) (hc : s.cfe.converter = .settling) : s.psc.state = .armed := by
  unfold passTable passFits at h
  cases hst : s.psc.state <;> simp_all

/-- The converters capture in RUNNING alone. -/
theorem State.passTable.running_of_capturing {s : State} (h : s.passTable) (hc : s.cfe.converter = .capturing) :
    s.psc.state = .running := by
  unfold passTable passFits at h
  cases hst : s.psc.state <;> simp_all

/-- What the table says of the pass controller and the capture index in ARMED. -/
theorem State.passTable.of_armed {s : State} (h : s.passTable) (hst : s.psc.state = .armed) :
    s.psc.cause = none ∧ s.crg.w = 0 ∧ s.crg.e = none := by
  simp only [passTable, hst, passFits] at h
  exact ⟨h.1, h.2.2.2⟩

/-- Capture begins at index 0, with no end cause. -/
theorem State.passTable_enterRunning {s : State} (hfresh : s.psc.cause = none ∧ s.crg.w = 0 ∧ s.crg.e = none) :
    s.enterRunning.passTable := by
  obtain ⟨hrun, hpend, hconv, hcount, -, hgather⟩ := s.enterRunning_sets
  simp [passTable, passFits, hrun, hpend, hconv, hcount, hgather, hfresh]

/-- Cues may be posted from ARMED to DRAINING, where the table says nothing of the list. -/
theorem State.passTable_postCue {s : State} (p : List Byte) (hopen : s.cuesRefused = none) (h : s.passTable) :
    (s.postCue p).state.passTable := by
  obtain heq | ⟨q, b, -, -, heq⟩ := s.postCue_state p
  · rwa [heq]
  · have hst : s.psc.state = .armed ∨ s.psc.state = .running ∨ s.psc.state = .draining := by
      unfold State.cuesRefused at hopen
      cases hst : s.psc.state <;> simp_all
    rw [heq]
    unfold passTable at h ⊢
    rcases hst with hst | hst | hst <;> simp only [hst] at h ⊢ <;> exact h

/-- A start request waits for the settle, or capture begins. -/
theorem State.passTable_startRequest {s : State} (hst : s.psc.state = .armed) (h : s.passTable) : s.startRequest.passTable := by
  unfold startRequest
  split
  · exact passTable_enterRunning (h.of_armed hst)
  · simp only [passTable, hst, passFits] at h ⊢
    simp_all

/-- The settle end leaves ARMED with settled converters, or capture begins. -/
theorem State.passTable_settleEnd {s : State} (hc : s.cfe.converter = .settling) (h : s.passTable) : s.settleEnd.passTable := by
  have hst := h.armed_of_settling hc
  unfold settleEnd
  simp only
  split
  · exact passTable_enterRunning (h.of_armed hst)
  · simp only [passTable, hst, passFits] at h ⊢
    simp_all

/-- The end of capture leaves DRAINING, with E at the capture index. -/
theorem State.passTable_endCapture {s : State} (c : EndCause) (hst : s.psc.state = .running) (h : s.passTable) :
    (s.endCapture c).passTable := by
  obtain ⟨hdrain, hcause, he, hconv, hcount, hgather, -⟩ := s.endCapture_sets c
  simp only [passTable, hst, passFits] at h
  simp [passTable, passFits, hdrain, hcause, he, hconv, hcount, hgather, h]

/-- An ABORT from RUNNING leaves ENDED, with E at the capture index. -/
theorem State.passTable_abortRunning {s : State} (hst : s.psc.state = .running) (h : s.passTable) : s.abortRunning.passTable := by
  obtain ⟨hend, hcause, hpend, hcues, he, hconv, hcount, hgather⟩ := s.abortRunning_sets
  simp only [passTable, hst, passFits] at h
  simp [passTable, passFits, hend, hcause, hpend, hcues, he, hconv, hcount, hgather, h]

theorem State.passTable_abortDraining {s : State} (hst : s.psc.state = .draining) (h : s.passTable) : s.abortDraining.passTable := by
  obtain ⟨hend, hcause, hpend, hcues⟩ := s.abortDraining_sets
  simp only [passTable, hst, passFits] at h
  simp [passTable, passFits, hend, hcause, hpend, hcues, h]

theorem State.passTable_completeDraining {s : State} (hst : s.psc.state = .draining) (h : s.passTable) :
    s.completeDraining.passTable := by
  obtain ⟨hend, hcause, hpend, hcues⟩ := s.completeDraining_sets
  simp only [passTable, hst, passFits] at h
  simp [passTable, passFits, hend, hcause, hpend, hcues, h]

theorem State.passTable_returnToIdle {s : State} (hst : s.psc.state = .armed) (h : s.passTable) : s.returnToIdle.passTable := by
  obtain ⟨hidle, hpend, hcues, hconv, hcount, hgather⟩ := s.returnToIdle_sets
  simp [passTable, passFits, hidle, hpend, hcues, hconv, hcount, hgather, h.of_armed hst]

/-- A wide tick of the settle counts down; a wide sample of capture joins its group. -/
theorem State.passTable_settle {s : State} {n : Nat} (hc : s.cfe.converter = .settling) (h1 : 1 ≤ n) (hn : n ≤ s.cfe.settleCount)
    (h : s.passTable) : State.passTable { s with cfe := { s.cfe with settleCount := n } } := by
  have hst := h.armed_of_settling hc
  simp only [passTable, hst, hc, passFits] at h ⊢
  simp_all
  omega

theorem State.passTable_gather {s : State} {x : PerTrack (BitVec 24)} (hc : s.cfe.converter = .capturing)
    (hthree : s.cfe.gathered.length ≠ 3) (h : s.passTable) :
    State.passTable { s with cfe := { s.cfe with gathered := s.cfe.gathered ++ [x], wideCount := s.cfe.wideCount + 1 } } := by
  have hst := h.running_of_capturing hc
  simp only [passTable, hst, passFits, List.length_append, List.length_singleton] at h ⊢
  simp_all
  omega

/-- A group event below the limit raises w and empties the group. -/
theorem State.passTable_group {s : State} (g : WideGroup) (hc : s.capturing = true) (h : s.passTable) : (s.group g).passTable := by
  obtain ⟨hconv, hlimit⟩ := State.capturing_iff.mp hc
  obtain ⟨hw, hgather, -⟩ := s.group_sets g
  have hst := h.running_of_capturing hconv
  simp only [passTable, hst, passFits] at h
  simp [passTable, passFits, hst, hw, hgather, h, Nat.succ_le_of_lt hlimit]

theorem State.passTable_frame {s : State} (x : Side) (h : s.passTable) : (s.frame x).passTable := by
  have hfewer := passFits_of_sublist h (s.frame_sublist x)
  simpa [passTable] using hfewer

theorem keptByEvents_passTable : KeptByEvents fun s =>
    passFits s.psc.state s.psc.cause s.psc.startPending s.psc.cues s.cfe.converter s.cfe.settleCount s.cfe.gathered s.crg.w
      s.crg.e where
  postCue _ p hopen h := State.passTable_postCue p hopen h
  dropCues _ _ h := passFits_of_sublist h List.filter_sublist
  armPass s _ := by simp [State.armPass, s.renewPass_sets true, passFits, Config.settleLength]
  startRequest _ hst h := State.passTable_startRequest hst h
  returnToIdle _ hst h := State.passTable_returnToIdle hst h
  endCapture _ c hst h := State.passTable_endCapture c hst h
  abortRunning _ hst h := State.passTable_abortRunning hst h
  abortDraining _ hst h := State.passTable_abortDraining hst h
  completeDraining _ hst h := State.passTable_completeDraining hst h
  restartPart s _ := by simp [State.restartPart, s.renewPass_sets false, passFits]
  lineResetPart _ _ _ _ := ⟨rfl, rfl, rfl, rfl, rfl, rfl, rfl, rfl⟩
  settle _ _ hc h1 hn h := State.passTable_settle hc h1 hn h
  settleEnd _ hc h := State.passTable_settleEnd hc h
  gather _ _ hc hthree h := State.passTable_gather hc hthree h
  group _ g hc h := State.passTable_group g hc h
  frame _ x h := State.passTable_frame x h

/-- Settles O58: the two agreements are one table over the pass state, and every event keeps the table. -/
theorem stepKeepsThePass : Obligations.StepKeepsThePass := fun s t hpass hconv ht =>
  t.passTable_iff.mp (keptByEvents_passTable.step (s.passTable_iff.mpr ⟨hpass, hconv⟩) ht)

end Sys2Proof.Machine
end
section
/-! SUPPORT. What an event does to the defect list and the notice queue: it reports spans and growths, lets entries settle and queues
notices, one after another. A property that these four operations keep is kept by every event of capture. -/

namespace Sys2Proof.Machine

/-- A property of the defect list and the notice queue that a notice, a part of a span report, a growth report and a settling test
keep. -/
structure KeptByReports (P : DefectList → NoticeQueue → Prop) : Prop where
  push (d : DefectList) (q : NoticeQueue) (n : Notice) : P d q → P d (q.push n)
  newSpan (d : DefectList) (q : NoticeQueue) (r : SpanReport) : P d q → P (d.newSpan r).1 q
  grow (d : DefectList) (q : NoticeQueue) (r : GrowthReport) : P d q → P (d.grow r) q
  settle (d : DefectList) (q : NoticeQueue) (limit : Int) : P d q → P (d.settle limit) q

/-- The property as one of a state. -/
def State.tells (P : DefectList → NoticeQueue → Prop) (s : State) : Prop :=
  P s.dfl s.notices

namespace KeptByReports

variable {P : DefectList → NoticeQueue → Prop} (h : KeptByReports P) {s : State}

/-- The property reads the list and the queue alone. -/
theorem congr {t : State} (hd : t.dfl = s.dfl) (hn : t.notices = s.notices) (hs : s.tells P) : t.tells P := by
  unfold State.tells at hs ⊢
  rwa [hd, hn]

theorem finishResampler (x : Side) (hs : s.tells P) : (s.finishResampler x).tells P :=
  congr (by simp [State.finishResampler]) (by simp [State.finishResampler]) hs

include h

/-! ### Reports and notices -/

theorem notify (b : NoticeBody) (o : Nat) (hs : s.tells P) : (s.notify b o).tells P :=
  h.push _ _ _ hs

theorem settleDefects (hs : s.tells P) : s.settleDefects.tells P :=
  h.settle _ _ _ hs

theorem takeSpan (r : SpanReport) (hs : s.tells P) : (s.takeSpan r).tells P := by
  have hlisted : P ((s.dfl.newSpan r).1.settle s.settlingLimit) s.notices := h.settle _ _ _ (h.newSpan _ _ _ hs)
  unfold State.takeSpan
  exact iteInduction (motive := State.tells P) (fun _ => h.push _ _ _ hlisted) fun _ => hlisted

theorem report (r : Report) (hs : s.tells P) : (s.report r).tells P := by
  cases r with
  | span r => exact List.foldlRecOn _ _ hs fun _ ht _ _ => h.takeSpan _ ht
  | growth r => exact h.settle _ _ _ (h.grow _ _ _ hs)

theorem reports (rs : List Report) (hs : s.tells P) : (s.reports rs).tells P :=
  List.foldlRecOn _ _ hs fun _ ht _ _ => h.report _ ht

/-! ### Cues -/

theorem takeCues (due : Cue → Bool) (o : Nat) {apply : Cue → State → State} (ha : ∀ c (t : State), t.tells P → (apply c t).tells P)
    (hs : s.tells P) : (s.takeCues due o apply).tells P :=
  List.foldlRecOn _ _ hs fun _ ht _ _ => h.notify _ _ (ha _ _ ht)

theorem takeSourceCues (x : Side) (b : Nat) (hs : s.tells P) : (s.takeSourceCues x b).tells P := by
  refine h.takeCues _ _ (fun c t ht => ?_) hs
  unfold applySourceCue
  split <;> exact ht

theorem takeLevelCues (x : Side) (b : Nat) (hs : s.tells P) : (s.takeLevelCues x b).tells P := by
  refine h.takeCues _ _ (fun c t ht => ?_) hs
  unfold applyLevelCue
  split <;> exact ht

theorem takeSkewCues (x : Side) (i : Nat) (hs : s.tells P) : (s.takeCues (skewDue x i) i applySkewCue).tells P := by
  refine h.takeCues _ _ (fun c t ht => ?_) hs
  unfold applySkewCue
  split <;> exact ht

theorem takeMarkCues (n : Nat) (hs : s.tells P) : (s.takeCues (markDue n) n (applyMarkCue n)).tells P := by
  refine h.takeCues _ _ (fun c t ht => ?_) hs
  unfold applyMarkCue
  split
  · exact h.report _ ht
  all_goals exact ht

/-! ### The group event -/

theorem checkSide (x : Side) (hs : s.tells P) : (s.checkSide x).tells P :=
  iteInduction (motive := State.tells P) (fun _ => h.notify _ _ (h.report _ hs)) fun _ => hs

theorem checkStream (i : Fin 8) (hs : s.tells P) : (s.checkStream i).tells P := by
  unfold State.checkStream
  split
  · exact iteInduction (motive := State.tells P) (fun _ => h.notify _ _ (h.report _ hs)) fun _ => hs
  · exact hs

theorem overrunCheck (hs : s.tells P) : s.overrunCheck.tells P :=
  List.foldlRecOn _ _ (List.foldlRecOn _ _ hs fun _ ht x _ => h.checkSide x ht) fun _ ht i _ => h.checkStream i ht

theorem closeWindow (x : Side) (length : Nat) (atEnd : Bool) (o : Nat) (hs : s.tells P) :
    (s.closeWindow x length atEnd o).tells P := by
  unfold State.closeWindow
  simp only
  split <;> split
  · exact h.report _ (h.notify _ _ hs)
  · exact h.report _ hs
  · exact h.notify _ _ hs
  · exact hs

theorem boundary (x : Side) (n : Nat) (l r : Int) (hs : s.tells P) : (s.boundary x n l r).tells P :=
  h.takeSourceCues x n (h.closeWindow x _ false n hs)

theorem trackSide (x : Side) (n : Nat) (g : WideGroup) (hs : s.tells P) : (s.trackSide x n g).tells P := by
  unfold State.trackSide
  refine iteInduction (motive := State.tells P) (fun _ => ?_) fun _ => hs
  simp only
  split
  · exact h.boundary x n _ _ hs
  · exact hs

theorem trackGroup (n : Nat) (g : WideGroup) (hs : s.tells P) : (s.trackGroup n g).tells P :=
  h.trackSide .B n g (h.trackSide .A n g hs)

theorem putMonitor (t : Track) (out : Monitor × List Report) (hs : s.tells P) : (s.putMonitor t out).tells P :=
  h.reports _ hs

theorem levelSide (x : Side) (n : Nat) (y : PerTrack Int) (hs : s.tells P) : (s.levelSide x n y).tells P := by
  unfold State.levelSide
  refine iteInduction (motive := State.tells P) (fun _ => ?_) fun _ => hs
  exact iteInduction (motive := State.tells P) (fun _ => h.takeLevelCues x _ (h.putMonitor _ _ (h.putMonitor _ _ hs)))
    fun _ => h.putMonitor _ _ (h.putMonitor _ _ hs)

theorem levelGroup (n : Nat) (y : PerTrack Int) (hs : s.tells P) : (s.levelGroup n y).tells P :=
  h.levelSide .B n y (h.levelSide .A n y hs)

theorem clipTake (n : Nat) (g : WideGroup) (hs : s.tells P) : (s.clipTake n g).tells P :=
  List.foldlRecOn _ _ hs fun _ ht _ _ => h.reports _ ht

theorem captureGroup (g : WideGroup) (hs : s.tells P) : (s.captureGroup g).tells P :=
  h.settleDefects (h.clipTake _ g (h.levelGroup _ _ (h.trackGroup _ g (h.takeMarkCues _ hs))))

theorem group (g : WideGroup) (hs : s.tells P) : (s.group g).tells P :=
  h.captureGroup g (h.overrunCheck hs)

/-! ### Frames and sample groups -/

theorem closeSideLoss (x : Side) (hs : s.tells P) : (s.closeSideLoss x).tells P :=
  iteInduction (motive := State.tells P) (fun _ => h.report _ hs) fun _ => hs

theorem closeStreamLoss (i : Fin 8) (hs : s.tells P) : (s.closeStreamLoss i).tells P :=
  iteInduction (motive := State.tells P) (fun _ => h.report _ hs) fun _ => hs

theorem advanceSide (x : Side) (step : Nat) (hs : s.tells P) : (s.advanceSide x step).tells P := by
  have hclosed : ∀ r : Resampler, (State.closeSideLoss { s with rsp := s.rsp.set x r } x).tells P := fun _ => h.closeSideLoss x hs
  unfold State.advanceSide
  simp only
  split
  · exact finishResampler x (hclosed _)
  · exact hclosed _

theorem frame (x : Side) (hs : s.tells P) : (s.frame x).tells P := by
  have hcues := h.takeSkewCues x (s.rsp.get x).index hs
  unfold State.frame
  simp only
  split
  · exact hcues
  · exact h.advanceSide x _ (congr (by simp) (by simp) hcues)

theorem takeGroup (i : Fin 8) (ts : TrackSet) (hs : s.tells P) : (s.takeGroup i ts).tells P := by
  have hclosed := h.closeStreamLoss i hs
  unfold State.takeGroup
  simp only
  split
  · split <;> exact congr (by simp) (by simp) hclosed
  · exact congr (by simp) (by simp) hclosed

/-! ### The pass -/

theorem stopCapture (hs : s.tells P) : s.stopCapture.tells P := by
  have hclips : ∀ t : State, t.tells P → t.clipFinish.tells P := fun _ ht => List.foldlRecOn _ _ ht fun _ hu _ _ => h.reports _ hu
  exact List.foldlRecOn _ _ (List.foldlRecOn _ _ (hclips _ hs) fun _ ht x _ => h.closeSideLoss x ht)
    fun _ ht i _ => h.closeStreamLoss i ht

theorem finishSide (x : Side) (e : Nat) (hs : s.tells P) : (s.finishSide x e).tells P :=
  iteInduction (motive := State.tells P) (fun _ => h.closeWindow x _ true e hs) fun _ => hs

theorem levelFinish (e : Nat) (hs : s.tells P) : (s.levelFinish e).tells P :=
  List.foldlRecOn _ _ hs fun _ ht _ _ => h.putMonitor _ _ ht

theorem levelAbort (hs : s.tells P) : s.levelAbort.tells P :=
  List.foldlRecOn _ _ hs fun _ ht _ _ => h.putMonitor _ _ ht

theorem endCapture (c : EndCause) (hs : s.tells P) : (s.endCapture c).tells P := by
  have hstopped := h.stopCapture (h.notify (.pass .draining (some c) 0) s.crg.w
    (s := { s with psc := { s.psc with state := .draining, cause := some c } }) hs)
  have hfinished := h.settleDefects (h.levelFinish s.crg.w (h.finishSide .B s.crg.w (h.finishSide .A s.crg.w hstopped)))
  refine congr ?_ ?_ hfinished <;> simp [State.endCapture, State.trackFinish]

theorem boundaryZero (hs : s.tells P) : s.boundaryZero.tells P :=
  List.foldlRecOn _ _
    (List.foldlRecOn _ _ hs fun _ ht x _ => iteInduction (motive := State.tells P) (fun _ => h.takeSourceCues x 0 ht) fun _ => ht)
    fun _ ht x _ => iteInduction (motive := State.tells P) (fun _ => h.takeLevelCues x 0 ht) fun _ => ht

theorem enterRunning (hs : s.tells P) : s.enterRunning.tells P :=
  h.boundaryZero (h.notify (s := s.beginCapture) _ _ hs)

end KeptByReports

/-! ### The host's side of the list and the queue, and the pass boundaries -/

/-- A property of the defect list and the notice queue that reports keep, that the taking, the discard and the end of a pass keep, and
that an empty list has beside a queue of one notice or none. -/
structure KeptByLists (P : DefectList → NoticeQueue → Prop) : Prop extends KeptByReports P where
  settleAll (d : DefectList) (q : NoticeQueue) : P d q → P d.settleAll q
  carryFirst (d : DefectList) (q : NoticeQueue) : P d q → P { d with entries := carryFirst takeLimit d.entries } q
  clearCarried (d : DefectList) (q : NoticeQueue) : P d q → P d.clearCarried q
  removeCarried (d : DefectList) (q : NoticeQueue) : P d q → P d.removeCarried q
  empty (d : DefectList) (q : NoticeQueue) : P d q → P .empty q
  forgetLost (d : DefectList) (q : NoticeQueue) : P d q → P d { q with lost := 0 }
  removeNotice (d : DefectList) (q : NoticeQueue) : P d q → P d { q with queue := q.queue.tail }
  fresh (ns : List Notice) : ns.length ≤ 1 → P .empty ⟨ns, 0⟩

namespace KeptByLists

variable {P : DefectList → NoticeQueue → Prop} (h : KeptByLists P) {s : State}
include h

theorem enterEnded (c : Option EndCause) (hs : s.tells P) : (s.enterEnded c).tells P :=
  h.push _ _ _ (h.settleAll _ _ hs)

theorem startRequest (hs : s.tells P) : s.startRequest.tells P :=
  iteInduction (motive := State.tells P) (fun _ => h.enterRunning hs) fun _ => hs

theorem settleEnd (hs : s.tells P) : s.settleEnd.tells P :=
  iteInduction (motive := State.tells P)
    (fun _ => h.enterRunning (s := { s with cfe := { s.cfe with converter := .settled, settleCount := 0 } }) hs) fun _ => hs

/-- Every event keeps such a property. -/
theorem keptByEvents : KeptByEvents fun s => P s.dfl s.notices where
  notify _ b o hs := h.notify b o hs
  report _ r hs := h.report r hs
  postCue s p _ hs := by rw [State.postCue_keeps]; exact hs
  armPass s hs := h.push _ _ _ (h.empty _ _ hs)
  startRequest _ _ hs := h.startRequest hs
  returnToIdle _ _ hs := h.push _ _ _ hs
  endCapture _ c _ hs := h.endCapture c hs
  abortRunning _ _ hs := h.enterEnded _ (h.levelAbort (h.stopCapture hs))
  abortDraining _ _ hs := h.enterEnded _ hs
  completeDraining _ _ hs := h.enterEnded _ hs
  takeDefects _ hs := h.carryFirst _ _ hs
  clearCarried _ hs := h.clearCarried _ _ hs
  removeCarried _ hs := h.removeCarried _ _ hs
  forgetLost _ hs := h.forgetLost _ _ hs
  removeNotice _ hs := h.removeNotice _ _ hs
  discard _ hs := h.empty _ _ hs
  restartPart _ _ := h.fresh _ (Nat.le_refl 1)
  lineResetPart _ _ _ _ := h.fresh _ (Nat.zero_le 1)
  settleEnd _ _ hs := h.settleEnd hs
  group _ g _ hs := h.group g hs
  frame _ x hs := h.frame x hs
  takeGroup _ i ts hs := h.takeGroup i ts hs

end KeptByLists
end Sys2Proof.Machine
end
section
/-! SUPPORT. The order of the defect list and the entries apart in it (spec/05 R75, R78): what merging and insertion do to both. -/

namespace Sys2Proof.Machine

/-! ### The place of an entry -/

/-- What the order and the overlap of entries read of an entry: kind, key, start and end. -/
def DefectEntry.place (e : DefectEntry) : DefectKind × Nat × Nat × Nat :=
  (e.kind, e.key, e.start, e.last)

/-- Two entries stand in the list's order and apart. -/
def DefectEntry.apart (a b : DefectEntry) : Prop :=
  a.before b = true ∧ a.meets b = false

theorem DefectList.inOrder_iff (d : DefectList) : d.inOrder ↔ d.entries.Pairwise DefectEntry.apart :=
  Iff.rfl

theorem DefectKind.rank_injective : Function.Injective DefectKind.rank := by
  intro a b h
  cases a <;> cases b <;> first | rfl | exact absurd h (by decide)

section Order

variable {a b c : DefectEntry}

theorem DefectEntry.start_le_last (a : DefectEntry) : a.start ≤ a.last :=
  Nat.le_add_right ..

/-- The order: by start, then by rank, then by key. -/
theorem DefectEntry.before_iff : a.before b = true ↔ a.start < b.start ∨
    a.start = b.start ∧ (a.kind.rank < b.kind.rank ∨ a.kind.rank = b.kind.rank ∧ a.key < b.key) := by
  simp [before, DefectKind.rank_injective.eq_iff]

theorem DefectEntry.before_trans (hab : a.before b = true) (hbc : b.before c = true) : a.before c = true := by
  rw [before_iff] at *
  omega

/-- Overlap: one kind and key, and the same start for MARKs, ranges that overlap or abut for the others. -/
theorem DefectEntry.meets_iff : a.meets b = true ↔ a.kind = b.kind ∧ a.key = b.key ∧
    (if a.kind = .mark then a.start = b.start else a.start ≤ b.last + 1 ∧ b.start ≤ a.last + 1) := by
  unfold meets
  split <;> simp [and_assoc]

theorem DefectEntry.meets_comm (a b : DefectEntry) : a.meets b = b.meets a := by
  rw [Bool.eq_iff_iff, meets_iff, meets_iff]
  by_cases hk : a.kind = b.kind
  · simp only [hk, true_and, eq_comm (a := a.key)]
    split
    · rw [eq_comm (a := a.start)]
    · rw [and_comm (a := a.start ≤ b.last + 1)]
  · simp [hk, Ne.symm hk]

/-- Entries that stand apart are ordered one way or the other. -/
theorem DefectEntry.before_of_not_before (hm : a.meets b = false) (hb : a.before b = false) : b.before a = true := by
  have hstart := a.start_le_last
  have hstart' := b.start_le_last
  rw [← Bool.not_eq_true, meets_iff] at hm
  rw [← Bool.not_eq_true, before_iff] at hb
  rw [before_iff]
  by_cases hk : a.kind = b.kind
  · rw [hk] at hb hm ⊢
    refine Classical.byContradiction fun hnot => ?_
    refine hm ⟨rfl, by omega, ?_⟩
    split <;> omega
  · have hrank : a.kind.rank ≠ b.kind.rank := fun h => hk (DefectKind.rank_injective h)
    omega

/-- Entries of equal places are apart from the same entries. -/
theorem DefectEntry.apart_congr {a' b' : DefectEntry} (ha : a.place = a'.place) (hb : b.place = b'.place) :
    a.apart b ↔ a'.apart b' := by
  simp only [place, Prod.mk.injEq] at ha hb
  obtain ⟨hkind, hkey, hstart, hlast⟩ := ha
  obtain ⟨hkind', hkey', hstart', hlast'⟩ := hb
  simp only [apart, before, meets, hkind, hkey, hstart, hlast, hkind', hkey', hstart', hlast']

end Order

/-- A list with the same places is as ordered as the list. -/
theorem pairwise_apart_of_places {es es' : List DefectEntry} (h : es'.map DefectEntry.place = es.map DefectEntry.place)
    (hes : es.Pairwise DefectEntry.apart) : es'.Pairwise DefectEntry.apart := by
  induction es generalizing es' with
  | nil => simp_all
  | cons e es ih =>
    obtain _ | ⟨e', es'⟩ := es'
    · simp at h
    · simp only [List.map_cons, List.cons.injEq] at h
      obtain ⟨hhead, htail⟩ := h
      obtain ⟨hfirst, hrest⟩ := List.pairwise_cons.mp hes
      refine List.pairwise_cons.mpr ⟨fun d' hd' => ?_, ih htail hrest⟩
      obtain ⟨d, hd, hplace⟩ := List.mem_map.mp (htail ▸ List.mem_map_of_mem (f := DefectEntry.place) hd')
      exact (DefectEntry.apart_congr hhead hplace.symm).mpr (hfirst d hd)

/-- Marks of an entry that its place does not read may change. -/
theorem pairwise_apart_map {f : DefectEntry → DefectEntry} {es : List DefectEntry} (hf : ∀ e, (f e).place = e.place)
    (hes : es.Pairwise DefectEntry.apart) : (es.map f).Pairwise DefectEntry.apart :=
  pairwise_apart_of_places (by simp [List.map_map, Function.comp_def, hf]) hes

/-! ### Merging -/

section Merge

variable {a b c d : DefectEntry}

theorem trackEmpty_inter_union (a b c : TrackSet) :
    trackEmpty (trackInter (trackUnion a b) c) = (trackEmpty (trackInter a c) && trackEmpty (trackInter b c)) := by
  obtain ⟨a1, a2, a3, a4⟩ := a
  obtain ⟨b1, b2, b3, b4⟩ := b
  obtain ⟨c1, c2, c3, c4⟩ := c
  simp only [trackEmpty, trackInter, trackUnion]
  cases c1 <;> cases c2 <;> cases c3 <;> cases c4 <;> simp <;> grind

theorem DefectEntry.merge_kind (a b : DefectEntry) : (a.merge b).kind = a.kind := rfl

/-- A merge of two entries of one key has that key. -/
theorem DefectEntry.merge_key (h : a.key = b.key) : (a.merge b).key = a.key := by
  unfold key at *
  simp only [merge, trackEmpty_inter_union]
  cases ha : a.stream with
  | some i => rfl
  | none =>
    cases hb : b.stream with
    | none =>
      simp only [ha, hb] at h ⊢
      split at h <;> split at h <;> simp_all
    | some i =>
      simp only [ha, hb] at h
      split at h <;> omega

theorem DefectEntry.merge_start (a b : DefectEntry) : (a.merge b).start = min a.start b.start := rfl

theorem DefectEntry.merge_last (h : a.kind ≠ .mark) : (a.merge b).last = max a.last b.last := by
  have := a.start_le_last
  have := b.start_le_last
  simp only [last, merge, if_neg h] at *
  omega

/-- What meets a merge of two entries that meet meets one of them. -/
theorem DefectEntry.meets_of_meets_merge (hab : a.meets b = true) (hd : d.meets (a.merge b) = true) :
    d.meets a = true ∨ d.meets b = true := by
  have := a.start_le_last
  have := b.start_le_last
  have := d.start_le_last
  obtain ⟨hkind, hkey, hab⟩ := meets_iff.mp hab
  obtain ⟨hdkind, hdkey, hd⟩ := meets_iff.mp hd
  rw [merge_kind] at hdkind
  rw [merge_key hkey] at hdkey
  rw [hdkind] at hd
  by_cases hmark : a.kind = .mark
  · rw [if_pos hmark, merge_start] at hd
    rw [if_pos hmark] at hab
    exact .inl (meets_iff.mpr ⟨hdkind, hdkey, by rw [if_pos (hdkind.trans hmark)]; omega⟩)
  · rw [if_neg hmark, merge_start, merge_last hmark] at hd
    rw [if_neg hmark] at hab
    by_cases hda : d.meets a = true
    · exact .inl hda
    · refine .inr (meets_iff.mpr ⟨hdkind.trans hkind, hdkey.trans hkey, ?_⟩)
      rw [meets_iff] at hda
      simp only [hdkind, hdkey, if_neg hmark, true_and] at hda ⊢
      omega

/-- What meets an entry meets its merge with another that it meets. -/
theorem DefectEntry.merge_meets_of_meets (hab : a.meets b = true) (hac : a.meets c = true) : (a.merge b).meets c = true := by
  obtain ⟨hkind, hkey, hab⟩ := meets_iff.mp hab
  obtain ⟨hckind, hckey, hac⟩ := meets_iff.mp hac
  refine meets_iff.mpr ⟨hckind, (merge_key hkey).trans hckey, ?_⟩
  rw [merge_kind, merge_start]
  by_cases hmark : a.kind = .mark
  · simp only [if_pos hmark] at *
    omega
  · simp only [if_neg hmark, merge_last hmark] at *
    omega

/-- What is apart from every entry merged is apart from the merge. -/
theorem DefectEntry.not_meets_foldl_merge {bs : List DefectEntry} (hbs : ∀ b ∈ bs, a.meets b = true) (ha : d.meets a = false)
    (hdbs : ∀ b ∈ bs, d.meets b = false) : d.meets (bs.foldl .merge a) = false := by
  induction bs generalizing a with
  | nil => exact ha
  | cons b bs ih =>
    have hab := hbs b List.mem_cons_self
    refine ih (fun c hc => merge_meets_of_meets hab (hbs c (List.mem_cons_of_mem _ hc))) ?_
      fun c hc => hdbs c (List.mem_cons_of_mem _ hc)
    refine Classical.byContradiction fun hmeets => ?_
    rcases meets_of_meets_merge hab (Bool.not_eq_false _ ▸ hmeets) with hda | hdb
    · simp [ha] at hda
    · simp [hdbs b List.mem_cons_self] at hdb

end Merge

/-! ### Insertion -/

theorem mem_defectInsert {e d : DefectEntry} {es : List DefectEntry} : d ∈ defectInsert e es ↔ d = e ∨ d ∈ es := by
  induction es with
  | nil => simp [defectInsert]
  | cons f es ih =>
    unfold defectInsert
    split
    · simp
    · simp only [List.mem_cons, ih]
      grind

/-- An entry apart from all of a list in order is inserted in order. -/
theorem pairwise_defectInsert {e : DefectEntry} {es : List DefectEntry} (hes : es.Pairwise DefectEntry.apart)
    (he : ∀ d ∈ es, e.meets d = false) : (defectInsert e es).Pairwise DefectEntry.apart := by
  induction es with
  | nil => simp [defectInsert]
  | cons d es ih =>
    obtain ⟨hfirst, hrest⟩ := List.pairwise_cons.mp hes
    have hd := he d List.mem_cons_self
    unfold defectInsert
    split
    next hbefore =>
      refine List.pairwise_cons.mpr ⟨fun f hf => ?_, hes⟩
      rcases List.mem_cons.mp hf with rfl | hf
      · exact ⟨hbefore, hd⟩
      · exact ⟨DefectEntry.before_trans hbefore (hfirst f hf).1, he f (List.mem_cons_of_mem _ hf)⟩
    next hbefore =>
      refine List.pairwise_cons.mpr ⟨fun f hf => ?_, ih hrest fun f hf => he f (List.mem_cons_of_mem _ hf)⟩
      rcases mem_defectInsert.mp hf with rfl | hf
      · exact ⟨DefectEntry.before_of_not_before hd (Bool.not_eq_true _ ▸ hbefore), (DefectEntry.meets_comm ..).trans hd⟩
      · exact hfirst f hf

/-- A symmetric relation that holds in a list from left to right holds between any two of its distinct elements. -/
theorem forall_of_pairwise {α : Type} {R : α → α → Prop} (hR : ∀ a b, R a b → R b a) {l : List α} (hl : l.Pairwise R) {a b : α}
    (ha : a ∈ l) (hb : b ∈ l) (hne : a ≠ b) : R a b := by
  induction l with
  | nil => cases ha
  | cons c l ih =>
    obtain ⟨hfirst, hl⟩ := List.pairwise_cons.mp hl
    rcases List.mem_cons.mp ha with rfl | hal
    · exact hfirst b ((List.mem_cons.mp hb).resolve_left (Ne.symm hne))
    · rcases List.mem_cons.mp hb with rfl | hbl
      · exact hR _ _ (hfirst a hal)
      · exact ih hl hal hbl

/-- Distinct entries of a list in order do not meet. -/
theorem not_meets_of_pairwise {es : List DefectEntry} (hes : es.Pairwise DefectEntry.apart) {a b : DefectEntry} (ha : a ∈ es)
    (hb : b ∈ es) (hne : a ≠ b) : a.meets b = false :=
  forall_of_pairwise (R := fun a b => a.meets b = false) (fun a b h => (DefectEntry.meets_comm b a).trans h)
    (hes.imp fun h => h.2) ha hb hne

/-- Merging keeps the order and the entries apart. -/
theorem pairwise_absorb {es : List DefectEntry} (e : DefectEntry) (hes : es.Pairwise DefectEntry.apart) :
    (absorb e es).Pairwise DefectEntry.apart := by
  refine pairwise_defectInsert (hes.sublist List.filter_sublist) fun d hd => ?_
  obtain ⟨hmem, hmeets⟩ := List.mem_filter.mp hd
  have hde : d.meets e = false := by rw [DefectEntry.meets_comm]; simpa using hmeets
  rw [DefectEntry.meets_comm]
  refine DefectEntry.not_meets_foldl_merge (fun b hb => (List.mem_filter.mp hb).2) hde fun b hb => ?_
  obtain ⟨hbmem, hbmeets⟩ := List.mem_filter.mp hb
  refine not_meets_of_pairwise hes hmem hbmem fun hdb => ?_
  rw [hdb, hbmeets] at hmeets
  simp at hmeets

/-! ### The list's operations -/

theorem place_carryFirst (n : Nat) (es : List DefectEntry) :
    (carryFirst n es).map DefectEntry.place = es.map DefectEntry.place := by
  induction es generalizing n with
  | nil => rfl
  | cons e es ih =>
    unfold carryFirst
    split <;> rw [List.map_cons, ih] <;> rfl

theorem DefectList.inOrder_unlink {d : DefectList} (r : Reporter) (h : d.inOrder) : (d.unlink r).inOrder :=
  pairwise_apart_map (by intro _; rfl) h

theorem DefectList.inOrder_unlinkOption {d : DefectList} (r : Option Reporter) (h : d.inOrder) : (d.unlinkOption r).inOrder := by
  cases r with
  | none => exact h
  | some r => exact inOrder_unlink r h

theorem DefectList.inOrder_settle {d : DefectList} (limit : Int) (h : d.inOrder) : (d.settle limit).inOrder :=
  pairwise_apart_map (by intro _; split <;> rfl) h

theorem DefectList.inOrder_newSpan {d : DefectList} (r : SpanReport) (h : d.inOrder) : (d.newSpan r).1.inOrder := by
  have hunlinked := inOrder_unlinkOption r.openAs h
  unfold newSpan
  simp only
  split
  · exact pairwise_absorb _ hunlinked
  · exact hunlinked

theorem DefectList.inOrder_grow {d : DefectList} (r : GrowthReport) (h : d.inOrder) : (d.grow r).inOrder := by
  unfold grow
  split
  · split <;> exact h
  · split
    · exact h
    · have hgrown := fun e => pairwise_absorb e
        (h.sublist (List.filter_sublist (p := fun f : DefectEntry => !decide (r.reporter ∈ f.openBy))))
      simp only
      split
      · exact inOrder_unlink _ (hgrown _)
      · exact hgrown _

theorem keptByLists_inOrder : KeptByLists fun d _ => d.inOrder where
  push _ _ _ h := h
  newSpan _ _ r h := DefectList.inOrder_newSpan r h
  grow _ _ r h := DefectList.inOrder_grow r h
  settle _ _ limit h := DefectList.inOrder_settle limit h
  settleAll _ _ h := pairwise_apart_map (by intro _; rfl) h
  carryFirst _ _ h := pairwise_apart_of_places (place_carryFirst _ _) h
  clearCarried _ _ h := pairwise_apart_map (by intro _; rfl) h
  removeCarried _ _ h := h.sublist List.filter_sublist
  empty _ _ _ := List.Pairwise.nil
  forgetLost _ _ h := h
  removeNotice _ _ h := h
  fresh _ _ := List.Pairwise.nil

/-- Settles O59: a merge stands apart from the rest because what meets it meets one of its members, and is inserted at its place; no
other operation moves an entry. -/
theorem stepKeepsDefectsInOrder : Obligations.StepKeepsDefectsInOrder :=
  fun _ _ hs ht => keptByLists_inOrder.keptByEvents.step hs ht

end Sys2Proof.Machine
end
section
/-! SUPPORT. Queues, lists and counts within their capacities (spec/05 R75, R83, spec/08 R128, spec/09 R140, R144, R146, spec/10 R157,
spec/11 R172), each part by itself, and the proof that every step keeps them. -/

namespace Sys2Proof.Machine

/-! ### The sense unit's counts -/

theorem State.stopCapture_sns (s : State) : s.stopCapture.sns = s.sns.endCapture := by
  simp [State.stopCapture]

theorem State.endCapture_sns (s : State) (c : EndCause) : (s.endCapture c).sns = s.sns.endCapture := by
  simp [State.endCapture, State.stopCapture_sns]

theorem State.abortRunning_sns (s : State) : s.abortRunning.sns = s.sns.endCapture := by
  simp [State.abortRunning, State.stopCapture_sns]

theorem State.enterRunning_sns (s : State) : s.enterRunning.sns =
    { s.sns with reference := false, tacho := 0, stalled := false, timer := s.psc.pass.stallTimer } := by
  simp [State.enterRunning, State.beginCapture]

namespace SenseUnit

variable {u : SenseUnit}

theorem inRange_endCapture (hu : u.inRange) : u.endCapture.inRange := by
  obtain ⟨-, -, htacho, hlast⟩ := hu
  exact ⟨Nat.zero_le _, Nat.min_le_left .., htacho, hlast⟩

theorem inRange_zero (lines : PerLine Line) : inRange ⟨lines, false, 0, none, false, false, none, [], 0⟩ :=
  ⟨Nat.zero_le _, Nat.zero_le _, Nat.zero_le _, by simp⟩

theorem inRange_restart (hu : u.inRange) (timer : Option Nat) :
    inRange { u with reference := false, tacho := 0, stalled := false, timer := timer } := by
  obtain ⟨hsplices, hdiscarded, -, hlast⟩ := hu
  exact ⟨hsplices, hdiscarded, Nat.zero_le _, hlast⟩

end SenseUnit

theorem State.inRange_enterRunning {s : State} (hs : s.sns.inRange) : s.enterRunning.sns.inRange := by
  rw [State.enterRunning_sns]
  exact SenseUnit.inRange_restart hs _

theorem keptByEvents_inRange : KeptByEvents fun s => s.sns.inRange where
  postCue s p _ h := by rw [State.postCue_keeps]; exact h
  armPass s _ := SenseUnit.inRange_zero s.sns.lines
  restartPart _ _ := SenseUnit.inRange_zero _
  lineResetPart _ _ _ _ := SenseUnit.inRange_zero _
  startRequest _ _ h := iteInduction (motive := fun t : State => t.sns.inRange) (fun _ => State.inRange_enterRunning h) fun _ => h
  settleEnd _ _ h := iteInduction (motive := fun t : State => t.sns.inRange) (fun _ => State.inRange_enterRunning h) fun _ => h
  endCapture s c _ h := s.endCapture_sns c ▸ SenseUnit.inRange_endCapture h
  abortRunning s _ h := s.abortRunning_sns ▸ SenseUnit.inRange_endCapture h

/-! ### The cue list -/

theorem length_cueInsert (c : Cue) (cs : List Cue) : (cueInsert c cs).length = cs.length + 1 := by
  induction cs with
  | nil => rfl
  | cons d cs ih =>
    unfold cueInsert
    split <;> simp [ih]

theorem length_cuePut_le {c : Cue} {cs : List Cue} (hroom : cs.any (·.same c) = true ∨ cs.length < Config.cueEntries)
    (h : cs.length ≤ Config.cueEntries) : (cuePut c cs).length ≤ Config.cueEntries := by
  rw [cuePut, length_cueInsert]
  rcases hroom with hsame | hlt
  · obtain ⟨d, hd, hsame⟩ := List.any_eq_true.mp hsame
    have hfewer := List.length_filter_lt_length_iff_exists (p := fun d : Cue => !d.same c) |>.mpr ⟨d, hd, by simp [hsame]⟩
    omega
  · have hfewer := List.length_filter_le (fun d : Cue => !d.same c) cs
    omega

theorem State.startRequest_sublist (s : State) : s.startRequest.psc.cues.Sublist s.psc.cues :=
  iteInduction (motive := fun t : State => t.psc.cues.Sublist s.psc.cues) (fun _ => s.enterRunning_sublist) fun _ => List.Sublist.refl _

theorem State.settleEnd_sublist (s : State) : s.settleEnd.psc.cues.Sublist s.psc.cues :=
  iteInduction (motive := fun t : State => t.psc.cues.Sublist s.psc.cues)
    (fun _ => State.enterRunning_sublist { s with cfe := { s.cfe with converter := .settled, settleCount := 0 } })
    fun _ => List.Sublist.refl _

/-- A property of the cue list that fewer cues have, and that POST_CUE keeps, is kept by every event. -/
theorem keptByEvents_cues {Q : List Cue → Prop} (hfewer : ∀ cs cs' : List Cue, cs'.Sublist cs → Q cs → Q cs')
    (hput : ∀ (s : State) (q : Nat) (b : CueBody) (p : List Byte), cueRequest p = some (q, b) →
      (s.psc.cues.any (·.same ⟨q, b.clamped, s.cueLate q b.clamped⟩) = true ∨ s.psc.cues.length < Config.cueEntries) →
      Q s.psc.cues → Q (cuePut ⟨q, b.clamped, s.cueLate q b.clamped⟩ s.psc.cues)) :
    KeptByEvents fun s => Q s.psc.cues where
  postCue s p _ h := by
    obtain heq | ⟨q, b, hreq, hroom, heq⟩ := s.postCue_state p
    · rwa [heq]
    · rw [heq]
      exact hput s q b p hreq hroom h
  dropCues _ _ h := hfewer _ _ List.filter_sublist h
  armPass _ h := hfewer _ _ (List.nil_sublist _) h
  restartPart _ h := hfewer _ _ (List.nil_sublist _) h
  lineResetPart _ _ _ h := hfewer _ _ (List.nil_sublist _) h
  startRequest s _ h := hfewer _ _ s.startRequest_sublist h
  returnToIdle _ _ h := hfewer _ _ (List.nil_sublist _) h
  abortRunning s _ h := by
    rw [s.abortRunning_sets.2.2.2.1]
    exact hfewer _ _ (List.nil_sublist _) h
  abortDraining s _ h := by
    rw [s.abortDraining_sets.2.2.2]
    exact hfewer _ _ (List.nil_sublist _) h
  completeDraining s _ h := by
    rw [s.completeDraining_sets.2.2.2]
    exact hfewer _ _ (List.nil_sublist _) h
  settleEnd s _ h := hfewer _ _ s.settleEnd_sublist h
  group s g _ h := hfewer _ _ (s.group_sublist g) h
  frame s x h := hfewer _ _ (s.frame_sublist x) h

theorem keptByEvents_cueCount : KeptByEvents fun s => s.psc.cues.length ≤ Config.cueEntries :=
  keptByEvents_cues (Q := fun cs => cs.length ≤ Config.cueEntries) (fun _ _ hsub h => Nat.le_trans hsub.length_le h)
    fun _ _ _ _ _ hroom h => length_cuePut_le hroom h

/-! ### The defect list and the notice queue -/

theorem length_defectInsert (e : DefectEntry) (es : List DefectEntry) : (defectInsert e es).length = es.length + 1 := by
  induction es with
  | nil => rfl
  | cons d es ih =>
    unfold defectInsert
    split <;> simp [ih]

theorem length_filter_add_filter_not {α : Type} (p : α → Bool) (l : List α) :
    (l.filter p).length + (l.filter fun a => !p a).length = l.length := by
  induction l with
  | nil => rfl
  | cons a l ih => cases h : p a <;> simp [h] <;> omega

/-- A merge puts one entry in the place of all that it meets. -/
theorem length_absorb (e : DefectEntry) (es : List DefectEntry) :
    (absorb e es).length + (es.filter e.meets).length = es.length + 1 := by
  rw [absorb, length_defectInsert]
  have hparts := length_filter_add_filter_not e.meets es
  omega

theorem length_carryFirst (n : Nat) (es : List DefectEntry) : (carryFirst n es).length = es.length := by
  simpa using congrArg List.length (place_carryFirst n es)

theorem DefectList.length_unlinkOption (d : DefectList) (r : Option Reporter) :
    (d.unlinkOption r).entries.length = d.entries.length := by
  cases r with
  | none => rfl
  | some r => exact List.length_map _

theorem DefectList.length_newSpan_le {d : DefectList} (r : SpanReport) (h : d.entries.length ≤ Config.defectEntries) :
    (d.newSpan r).1.entries.length ≤ Config.defectEntries := by
  have hlen := d.length_unlinkOption r.openAs
  have habsorb := length_absorb r.entry (d.unlinkOption r.openAs).entries
  unfold newSpan
  simp only
  split
  next hroom =>
    simp only [Bool.or_eq_true, decide_eq_true_eq] at hroom
    rcases hroom with hmeets | hlt
    · obtain ⟨e, he, hmeets⟩ := List.any_eq_true.mp hmeets
      have hpos := List.length_pos_of_mem (List.mem_filter.mpr ⟨he, hmeets⟩)
      simp only
      omega
    · simp only
      omega
  next => exact hlen ▸ h

theorem DefectList.length_grow_le (d : DefectList) (r : GrowthReport) : (d.grow r).entries.length ≤ d.entries.length := by
  unfold grow
  split
  · split <;> exact Nat.le_refl _
  · split
    · exact Nat.le_refl _
    next e hfind =>
      have hmem : e ∈ d.entries ∧ r.reporter ∈ e.openBy := ⟨List.mem_of_find?_eq_some hfind, by simpa using List.find?_some hfind⟩
      have hfewer := List.length_filter_lt_length_iff_exists (p := fun f : DefectEntry => !decide (r.reporter ∈ f.openBy)) |>.mpr
        ⟨e, hmem.1, by simp [hmem.2]⟩
      have habsorb : ∀ g, (absorb g (d.entries.filter fun f => !decide (r.reporter ∈ f.openBy))).length ≤ d.entries.length := by
        intro g
        have := length_absorb g (d.entries.filter fun f => !decide (r.reporter ∈ f.openBy))
        omega
      simp only
      split
      · exact Nat.le_trans (Nat.le_of_eq (List.length_map _)) (habsorb _)
      · exact habsorb _

/-- The six counts stay in 16 bits: one that is at 65,535 is not raised. -/
theorem KindCounts.ok_bump {c : KindCounts} (k : DefectKind) (h : c.ok = true) : (c.bump k).ok = true := by
  have hup : ∀ n, n ≤ 65535 → (if n < 65535 then n + 1 else n) ≤ 65535 := fun n hn => by split <;> omega
  simp only [KindCounts.ok, List.all_cons, List.all_nil, Bool.and_true, Bool.and_eq_true, decide_eq_true_eq] at h ⊢
  obtain ⟨h1, h2, h3, h4, h5, h6⟩ := h
  cases k <;> simp [KindCounts.bump, h1, h2, h3, h4, h5, h6, hup]

theorem DefectList.unlisted_unlinkOption (d : DefectList) (r : Option Reporter) : (d.unlinkOption r).unlisted = d.unlisted := by
  cases r <;> rfl

theorem DefectList.unlisted_newSpan_ok {d : DefectList} (r : SpanReport) (h : d.unlisted.ok = true) :
    (d.newSpan r).1.unlisted.ok = true := by
  have hsame := d.unlisted_unlinkOption r.openAs
  unfold newSpan
  simp only
  split
  · exact hsame ▸ h
  · exact KindCounts.ok_bump _ (hsame ▸ h)

theorem DefectList.unlisted_grow (d : DefectList) (r : GrowthReport) : (d.grow r).unlisted = d.unlisted := by
  unfold grow
  split
  · split <;> rfl
  · split
    · rfl
    · simp only
      split <;> rfl

theorem NoticeQueue.push_within {q : NoticeQueue} (n : Notice) (h : q.queue.length ≤ Config.noticeEntries ∧ q.lost ≤ 255) :
    (q.push n).queue.length ≤ Config.noticeEntries ∧ (q.push n).lost ≤ 255 := by
  obtain ⟨hqueue, hlost⟩ := h
  unfold push
  split
  · refine ⟨?_, hlost⟩
    simp only [List.length_append, List.length_singleton]
    omega
  · refine ⟨hqueue, ?_⟩
    simp only
    split <;> omega

/-- The capacities of the defect list and of the notice queue. -/
theorem keptByLists_within : KeptByLists fun d q => (d.entries.length ≤ Config.defectEntries ∧ d.unlisted.ok = true) ∧
    q.queue.length ≤ Config.noticeEntries ∧ q.lost ≤ 255 where
  push _ _ n h := ⟨h.1, NoticeQueue.push_within n h.2⟩
  newSpan _ _ r h := ⟨⟨DefectList.length_newSpan_le r h.1.1, DefectList.unlisted_newSpan_ok r h.1.2⟩, h.2⟩
  grow d _ r h := ⟨⟨Nat.le_trans (d.length_grow_le r) h.1.1, by rw [d.unlisted_grow]; exact h.1.2⟩, h.2⟩
  settle _ _ _ h := ⟨⟨Nat.le_trans (Nat.le_of_eq (List.length_map _)) h.1.1, h.1.2⟩, h.2⟩
  settleAll _ _ h := ⟨⟨Nat.le_trans (Nat.le_of_eq (List.length_map _)) h.1.1, h.1.2⟩, h.2⟩
  carryFirst _ _ h := ⟨⟨Nat.le_trans (Nat.le_of_eq (length_carryFirst ..)) h.1.1, h.1.2⟩, h.2⟩
  clearCarried _ _ h := ⟨⟨Nat.le_trans (Nat.le_of_eq (List.length_map _)) h.1.1, h.1.2⟩, h.2⟩
  removeCarried _ _ h := ⟨⟨Nat.le_trans (List.length_filter_le ..) h.1.1, h.1.2⟩, h.2⟩
  empty _ _ h := ⟨⟨Nat.zero_le _, rfl⟩, h.2⟩
  forgetLost _ _ h := ⟨h.1, h.2.1, Nat.zero_le _⟩
  removeNotice _ _ h := ⟨h.1, Nat.le_trans (Nat.le_of_eq List.length_tail) (Nat.le_trans (Nat.sub_le ..) h.2.1), h.2.2⟩
  fresh _ hns := ⟨⟨Nat.zero_le _, rfl⟩, Nat.le_trans hns (by decide), Nat.zero_le _⟩

/-! ### The output queue -/

/-- The output queue holds at most 64 blocks. -/
def State.queueFits (s : State) : Prop :=
  s.oq.blocks.length ≤ Config.queueBlocks

namespace State

variable {s : State}

/-- A block is sealed where the queue has a slot. -/
theorem queueFits_sealStream (i : Fin 8) (final : Bool) (next : StreamState) (h : s.oq.blocks.length < Config.queueBlocks) :
    (s.sealStream i final next).queueFits := by
  simp only [queueFits, sealStream, List.length_append, List.length_singleton]
  exact h

theorem lt_of_slotFree (h : s.slotFree = true) : s.oq.blocks.length < Config.queueBlocks := by
  simp only [slotFree, decide_eq_true_eq] at h
  omega

theorem queueFits_completeBlock (i : Fin 8) (h : s.queueFits) : (s.completeBlock i).queueFits :=
  iteInduction (motive := queueFits) (fun hfree => queueFits_sealStream _ _ _ (lt_of_slotFree hfree)) fun _ => h

theorem queueFits_addSlot (i : Fin 8) (b : List Byte) (n : Nat) (f : FlagSet) (h : s.queueFits) : (s.addSlot i b n f).queueFits :=
  iteInduction (motive := queueFits) (fun _ => queueFits_completeBlock i h) fun _ => h

theorem queueFits_endMark (i : Fin 8) (h : s.queueFits) : (s.endMark i).queueFits := by
  unfold endMark
  split
  case h_2 => exact iteInduction (motive := queueFits) (fun hfree => queueFits_sealStream _ _ _ (lt_of_slotFree hfree)) fun _ => h
  all_goals exact h

theorem queueFits_endMarks (is : List (Fin 8)) (h : s.queueFits) : (s.endMarks is).queueFits :=
  List.foldlRecOn _ _ h fun _ ht i _ => queueFits_endMark i ht

theorem queueFits_giveFrames (f : Frame) (is : List (Fin 8)) (h : s.queueFits) : (is.foldl (giveFrame f) s).queueFits :=
  List.foldlRecOn _ _ h fun t ht i _ => by
    unfold giveFrame
    simp only
    split
    · exact queueFits_addSlot _ _ _ _ ht
    · exact ht

theorem queueFits_finishResampler (x : Side) (h : s.queueFits) : (s.finishResampler x).queueFits :=
  queueFits_endMarks _ h

theorem queueFits_advanceSide (x : Side) (step : Nat) (h : s.queueFits) : (s.advanceSide x step).queueFits := by
  have hclosed : ∀ r : Resampler, (closeSideLoss { s with rsp := s.rsp.set x r } x).queueFits := fun r => by
    simpa [queueFits] using h
  unfold advanceSide
  exact iteInduction (motive := queueFits) (fun _ => queueFits_finishResampler x (hclosed _)) fun _ => hclosed _

theorem queueFits_frame (x : Side) (h : s.queueFits) : (s.frame x).queueFits := by
  have hcues : (s.takeCues (skewDue x (s.rsp.get x).index) (s.rsp.get x).index applySkewCue).queueFits := by
    simpa [queueFits] using h
  unfold frame
  simp only
  split
  · exact hcues
  · exact queueFits_advanceSide x _ (queueFits_giveFrames _ _ hcues)

theorem queueFits_takeGroup (i : Fin 8) (ts : TrackSet) (h : s.queueFits) : (s.takeGroup i ts).queueFits := by
  have hclosed : (s.closeStreamLoss i).queueFits := by simpa [queueFits] using h
  unfold takeGroup
  simp only
  split
  · split
    · exact queueFits_endMark _ (queueFits_addSlot _ _ _ _ hclosed)
    · exact queueFits_addSlot _ _ _ _ hclosed
  · exact queueFits_addSlot _ _ _ _ hclosed

theorem queueFits_drainSide (x : Side) (e : Nat) (h : s.queueFits) : (s.drainSide x e).queueFits :=
  iteInduction (motive := queueFits)
    (fun _ => iteInduction (motive := queueFits) (fun _ => h) fun _ => queueFits_finishResampler x h) fun _ => h

theorem queueFits_testGates (h : s.queueFits) : s.testGates.queueFits :=
  h

theorem queueFits_endCapture (c : EndCause) (h : s.queueFits) : (s.endCapture c).queueFits := by
  unfold endCapture
  refine queueFits_testGates (queueFits_endMarks _ (queueFits_drainSide .B _ (queueFits_drainSide .A _ ?_)))
  simpa [queueFits, trackFinish] using h

theorem queueFits_grantSlot (h : s.queueFits) : s.grantSlot.queueFits := by
  unfold grantSlot
  split
  · exact h
  · split
    next hlt =>
      split
      case h_1 => exact queueFits_sealStream _ _ _ hlt
      case h_2 => exact queueFits_sealStream _ _ _ hlt
      all_goals exact h
    next => exact h

end State

theorem keptByEvents_queueFits : KeptByEvents fun s => s.oq.blocks.length ≤ Config.queueBlocks where
  postCue s p _ h := by rw [State.postCue_keeps]; exact h
  armPass _ h := h
  restartPart _ _ := Nat.zero_le _
  lineResetPart _ _ _ _ := Nat.zero_le _
  discard _ _ := Nat.zero_le _
  freeSlot _ h := Nat.le_trans (Nat.le_of_eq List.length_tail) (Nat.le_trans (Nat.sub_le ..) h)
  grantSlot _ h := State.queueFits_grantSlot h
  endCapture _ c _ h := State.queueFits_endCapture c h
  frame _ x h := State.queueFits_frame x h
  takeGroup _ i ts h := State.queueFits_takeGroup i ts h

theorem keptByEvents_granted : KeptByEvents fun s => s.oq.granted.Nodup where
  postCue s p _ h := by rw [State.postCue_keeps]; exact h
  armPass _ h := h
  restartPart _ _ := List.nodup_nil
  lineResetPart _ _ _ _ := List.nodup_nil
  discard _ _ := List.nodup_nil
  freeSlot _ h := State.freeSlot_nodup h
  grantSlot s h := by
    rcases s.grantSlot_granted with hsame | htail
    · rwa [hsame]
    · rw [htail]
      exact h.sublist (List.tail_sublist _)
  endCapture s c _ h := by simpa [State.endCapture, State.trackFinish] using h

/-! ### All capacities together -/

theorem State.capacityOk_iff (s : State) : s.capacityOk = true ↔
    ((s.dfl.entries.length ≤ Config.defectEntries ∧ s.dfl.unlisted.ok = true) ∧ s.notices.queue.length ≤ Config.noticeEntries ∧
        s.notices.lost ≤ 255) ∧
      s.oq.blocks.length ≤ Config.queueBlocks ∧ s.oq.granted.Nodup ∧ s.psc.cues.length ≤ Config.cueEntries ∧ s.sns.inRange := by
  simp only [capacityOk, SenseUnit.inRange, Bool.and_eq_true, decide_eq_true_eq, Option.all_eq_true, Option.mem_def,
    show Config.spliceEntries = 8 from rfl]
  grind

/-- Settles O56: each capacity is kept by every event by itself. -/
theorem stepKeepsTheCapacities : Obligations.StepKeepsTheCapacities := by
  intro s t hs ht
  obtain ⟨hlists, hblocks, hgranted, hcues, hsense⟩ := s.capacityOk_iff.mp hs
  exact t.capacityOk_iff.mpr ⟨keptByLists_within.keptByEvents.step hlists ht, keptByEvents_queueFits.step hblocks ht,
    keptByEvents_granted.step hgranted ht, keptByEvents_cueCount.step hcues ht, keptByEvents_inRange.step hsense ht⟩

end Sys2Proof.Machine
end
section
/-! SUPPORT. Settings, base skews and cues in their ranges and the cue list in its order (spec/02 R18, spec/03 R43, spec/06 R89, spec/08
R118, spec/10 R157), and the proof that every step keeps them. -/

namespace Sys2Proof.Machine

/-! ### Settings -/

/-- The stored settings change by requests that check them alone; the pass copies are stored ones. -/
theorem keptByEvents_settingsOk : KeptByEvents fun s => s.psc.stored.ok = true ∧ s.psc.pass.ok = true where
  postCue s p _ h := by
    obtain heq | ⟨_, _, -, -, heq⟩ := s.postCue_state p <;> rw [heq] <;> exact h
  store _ _ hok h := ⟨hok h.1, h.2⟩
  armPass _ h := ⟨h.1, h.1⟩
  restartPart _ h := ⟨h.1, h.1⟩
  lineResetPart _ _ _ _ := (by decide : State.reset.psc.stored.ok = true ∧ State.reset.psc.pass.ok = true)

/-! ### The order of the cue list -/

section Order

variable {a b c : Cue}

theorem Cue.before_iff : a.before b = true ↔ a.position < b.position ∨ a.position = b.position ∧
    (a.body.target < b.body.target ∨ a.body.target = b.body.target ∧ a.body.kind < b.body.kind) := by
  simp [before]

theorem Cue.same_iff : a.same b = true ↔
    a.position = b.position ∧ a.body.target = b.body.target ∧ a.body.kind = b.body.kind := by
  simp [same, and_assoc]

theorem Cue.before_trans (hab : a.before b = true) (hbc : b.before c = true) : a.before c = true := by
  rw [before_iff] at *
  omega

theorem Cue.before_of_not_before (hsame : a.same b = false) (hb : a.before b = false) : b.before a = true := by
  rw [← Bool.not_eq_true, same_iff] at hsame
  rw [← Bool.not_eq_true, before_iff] at hb
  rw [before_iff]
  omega

end Order

theorem mem_cueInsert {c d : Cue} {cs : List Cue} : d ∈ cueInsert c cs ↔ d = c ∨ d ∈ cs := by
  induction cs with
  | nil => simp [cueInsert]
  | cons e cs ih =>
    unfold cueInsert
    split
    · simp
    · simp only [List.mem_cons, ih]
      grind

theorem mem_cuePut {c d : Cue} {cs : List Cue} : d ∈ cuePut c cs ↔ d = c ∨ d ∈ cs ∧ d.same c = false := by
  simp [cuePut, mem_cueInsert]

theorem cuesOrdered_cueInsert {c : Cue} {cs : List Cue} (hcs : cuesOrdered cs) (hc : ∀ d ∈ cs, d.same c = false) :
    cuesOrdered (cueInsert c cs) := by
  induction cs with
  | nil => exact List.pairwise_singleton ..
  | cons d cs ih =>
    obtain ⟨hfirst, hrest⟩ := List.pairwise_cons.mp hcs
    have hd := hc d List.mem_cons_self
    unfold cueInsert
    split
    next hbefore =>
      refine List.pairwise_cons.mpr ⟨fun e he => ?_, hcs⟩
      rcases List.mem_cons.mp he with rfl | he
      · exact hbefore
      · exact Cue.before_trans hbefore (hfirst e he)
    next hbefore =>
      refine List.pairwise_cons.mpr ⟨fun e he => ?_, ih hrest fun e he => hc e (List.mem_cons_of_mem _ he)⟩
      have hswap : c.same d = false := by
        rw [← Bool.not_eq_true, Cue.same_iff] at hd ⊢
        omega
      rcases mem_cueInsert.mp he with rfl | he
      · exact Cue.before_of_not_before hswap (Bool.not_eq_true _ ▸ hbefore)
      · exact hfirst e he

theorem cuesOrdered_cuePut {c : Cue} {cs : List Cue} (hcs : cuesOrdered cs) : cuesOrdered (cuePut c cs) :=
  cuesOrdered_cueInsert (hcs.sublist List.filter_sublist) fun d hd => by simpa using (List.mem_filter.mp hd).2

theorem keptByEvents_cuesOrdered : KeptByEvents fun s => cuesOrdered s.psc.cues :=
  keptByEvents_cues (Q := cuesOrdered) (fun _ _ hsub h => h.sublist hsub) fun _ _ _ _ _ _ h => cuesOrdered_cuePut h

/-! ### The values of cues -/

theorem trackEmpty_of_maskOf {n : Nat} {ts : TrackSet} (h : maskOf n = some ts) : trackEmpty ts = false := by
  unfold maskOf at h
  split at h
  next hrange =>
    obtain rfl := Option.some.inj h
    exact trackEmpty_trackSetOf hrange.1 hrange.2
  next => simp at h

/-- A cue's values as sent name some track, if it is a MARK; every other value is clamped. -/
theorem cueBodyOf_clamped_ok {kind target : Nat} {value : List Byte} {b : CueBody} (h : cueBodyOf kind target value = some b) :
    b.clamped.ok = true := by
  cases b with
  | source x src p =>
    cases p with
    | none => rfl
    | some p => simpa [CueBody.clamped, CueBody.ok] using clampPNom_range p
  | lift x on => rfl
  | gMax x v =>
    have := clampNat_mem (lo := 4096) (hi := 16384) (by decide) v
    simpa [CueBody.clamped, CueBody.ok] using this
  | skew x v =>
    simp only [CueBody.clamped, CueBody.ok, decide_eq_true_eq, clampInt_eq_max_min (show (-128 : Int) ≤ 127 by decide)]
    omega
  | mark ts =>
    unfold cueBodyOf at h
    split at h
    case h_5 =>
      obtain ⟨ts', hmask, heq⟩ := Option.map_eq_some_iff.mp h
      obtain rfl := CueBody.mark.inj heq
      simp [CueBody.clamped, CueBody.ok, trackEmpty_of_maskOf hmask]
    all_goals simp [Option.bind_eq_some_iff] at h

theorem cueRequest_clamped_ok {p : List Byte} {q : Nat} {b : CueBody} (h : cueRequest p = some (q, b)) : b.clamped.ok = true := by
  obtain ⟨b', hbody, heq⟩ := Option.map_eq_some_iff.mp h
  obtain ⟨-, rfl⟩ := Prod.mk.inj heq
  exact cueBodyOf_clamped_ok hbody

theorem keptByEvents_cueValues : KeptByEvents fun s => ∀ c ∈ s.psc.cues, c.body.ok = true :=
  keptByEvents_cues (Q := fun cs => ∀ c ∈ cs, c.body.ok = true) (fun _ _ hsub h c hc => h c (hsub.mem hc))
    fun _ _ _ _ hreq _ h c hc => by
      rcases mem_cuePut.mp hc with rfl | ⟨hmem, -⟩
      · exact cueRequest_clamped_ok hreq
      · exact h c hmem

/-! ### Base skews -/

/-- A base skew after one resampler has been replaced. -/
theorem PerSide.baseSkew_set (p : PerSide Resampler) (x y : Side) (r : Resampler) :
    ((p.set x r).get y).baseSkew = if y = x then r.baseSkew else (p.get y).baseSkew := by
  split
  next h => rw [h, PerSide.get_set_self]
  next h => rw [PerSide.get_set_of_ne _ _ h]

namespace State

variable (s : State) (x y : Side)

@[simp] theorem testGates_get_rsp : s.testGates.rsp.get x = { s.rsp.get x with wait := s.waitCause x } := by
  simp [testGates]

@[simp] theorem checkSide_baseSkew : ((s.checkSide x).rsp.get y).baseSkew = (s.rsp.get y).baseSkew := by
  unfold checkSide
  split
  · simp +contextual [jumpSide, PerSide.baseSkew_set]
  · rfl

@[simp] theorem overrunCheck_baseSkew : (s.overrunCheck.rsp.get y).baseSkew = (s.rsp.get y).baseSkew :=
  (foldl_keeps (keep := fun t : State => (t.rsp.get y).baseSkew) (fun t i => by simp) _ _).trans
    (foldl_keeps (keep := fun t : State => (t.rsp.get y).baseSkew) (fun t x => by simp) _ _)

@[simp] theorem group_baseSkew (g : WideGroup) : ((s.group g).rsp.get y).baseSkew = (s.rsp.get y).baseSkew := by
  simp [group, captureGroup, writeRings]

@[simp] theorem finishResampler_baseSkew : ((s.finishResampler x).rsp.get y).baseSkew = (s.rsp.get y).baseSkew := by
  simp +contextual [finishResampler, PerSide.baseSkew_set]

@[simp] theorem advanceSide_baseSkew (n : Nat) : ((s.advanceSide x n).rsp.get y).baseSkew = (s.rsp.get y).baseSkew := by
  unfold advanceSide
  simp only
  split <;> simp +contextual [PerSide.baseSkew_set]

@[simp] theorem drainSide_baseSkew (e : Nat) : ((s.drainSide x e).rsp.get y).baseSkew = (s.rsp.get y).baseSkew := by
  unfold drainSide
  split
  · split
    · simp +contextual [PerSide.baseSkew_set]
    · simp
  · rfl

@[simp] theorem endCapture_baseSkew (c : EndCause) : ((s.endCapture c).rsp.get y).baseSkew = (s.rsp.get y).baseSkew := by
  simp [endCapture, trackFinish]

@[simp] theorem enterRunning_baseSkew : (s.enterRunning.rsp.get y).baseSkew = (s.rsp.get y).baseSkew := by
  simp [enterRunning, beginCapture]

@[simp] theorem enterEnded_baseSkew (c : Option EndCause) : ((s.enterEnded c).rsp.get y).baseSkew = (s.rsp.get y).baseSkew := by
  simp [enterEnded]

@[simp] theorem abortRunning_baseSkew : (s.abortRunning.rsp.get y).baseSkew = (s.rsp.get y).baseSkew := by
  simp [abortRunning, abortOutput]

@[simp] theorem abortDraining_baseSkew : (s.abortDraining.rsp.get y).baseSkew = (s.rsp.get y).baseSkew := by
  simp [abortDraining, abortOutput]

@[simp] theorem completeDraining_baseSkew : (s.completeDraining.rsp.get y).baseSkew = (s.rsp.get y).baseSkew := by
  simp only [completeDraining, enterEnded_baseSkew, PerSide.get_map, Resampler.finishDraining]
  split <;> rfl

@[simp] theorem renewPass_baseSkew (arming : Bool) : ((s.renewPass arming).rsp.get y).baseSkew = (s.rsp.get y).baseSkew := by
  simp [renewPass, Resampler.fresh]

/-- The frame event of a side takes base skews from its SKEW cues. -/
theorem frame_baseSkew : ((s.frame x).rsp.get y).baseSkew =
    ((s.takeCues (skewDue x (s.rsp.get x).index) (s.rsp.get x).index applySkewCue).rsp.get y).baseSkew := by
  unfold frame
  simp only
  split <;> simp

end State

/-- SKEW cues with values in range leave base skews in range. -/
theorem State.skews_takeCues {s : State} (due : Cue → Bool) (o : Nat) (hcues : ∀ c ∈ s.psc.cues, c.body.ok = true)
    (hs : ∀ x, -128 ≤ (s.rsp.get x).baseSkew ∧ (s.rsp.get x).baseSkew ≤ 127) (y : Side) :
    -128 ≤ ((s.takeCues due o applySkewCue).rsp.get y).baseSkew ∧
      ((s.takeCues due o applySkewCue).rsp.get y).baseSkew ≤ 127 := by
  unfold State.takeCues
  refine List.foldlRecOn (motive := fun t : State => ∀ x, -128 ≤ (t.rsp.get x).baseSkew ∧ (t.rsp.get x).baseSkew ≤ 127)
    _ _ (by exact hs) (fun t ht c hc => ?_) y
  have hok := hcues c ((List.mem_filter.mp hc).1)
  unfold applySkewCue
  split
  next x v hbody =>
    rw [hbody] at hok
    simp only [CueBody.ok, decide_eq_true_eq] at hok
    intro z
    simp only [State.notify_rsp, PerSide.baseSkew_set]
    split
    · exact hok
    · exact ht z
  all_goals exact ht

theorem reset_skews (x : Side) : -128 ≤ (State.reset.rsp.get x).baseSkew ∧ (State.reset.rsp.get x).baseSkew ≤ 127 := by
  cases x <;> decide

/-- The base skews stay in range, because the values of the waiting cues do. -/
theorem keptByEvents_skews : KeptByEvents fun s =>
    (∀ x, -128 ≤ (s.rsp.get x).baseSkew ∧ (s.rsp.get x).baseSkew ≤ 127) ∧ ∀ c ∈ s.psc.cues, c.body.ok = true where
  putSkew s x b hlo hhi h := ⟨fun y => by
    simp only [State.putSkew_rsp, PerSide.baseSkew_set]
    split
    · exact ⟨hlo, hhi⟩
    · exact h.1 y, h.2⟩
  postCue s p hopen h := ⟨by rw [State.postCue_keeps]; exact h.1, keptByEvents_cueValues.postCue s p hopen h.2⟩
  dropCues s keep h := ⟨h.1, keptByEvents_cueValues.dropCues s keep h.2⟩
  armPass s h := ⟨fun x => by simpa [State.armPass] using h.1 x, keptByEvents_cueValues.armPass s h.2⟩
  startRequest s hst h := ⟨fun x => by unfold State.startRequest; split <;> simpa using h.1 x,
    keptByEvents_cueValues.startRequest s hst h.2⟩
  restartPart s h := ⟨fun x => by simpa [State.restartPart] using h.1 x, keptByEvents_cueValues.restartPart s h.2⟩
  lineResetPart s held levels h := ⟨reset_skews, keptByEvents_cueValues.lineResetPart s held levels h.2⟩
  returnToIdle s hst h := ⟨h.1, keptByEvents_cueValues.returnToIdle s hst h.2⟩
  abortRunning s hst h := ⟨fun x => by simpa using h.1 x, keptByEvents_cueValues.abortRunning s hst h.2⟩
  abortDraining s hst h := ⟨fun x => by simpa using h.1 x, keptByEvents_cueValues.abortDraining s hst h.2⟩
  completeDraining s hst h := ⟨fun x => by simpa using h.1 x, keptByEvents_cueValues.completeDraining s hst h.2⟩
  settleEnd s hc h := ⟨fun x => by unfold State.settleEnd; simp only; split <;> simpa using h.1 x,
    keptByEvents_cueValues.settleEnd s hc h.2⟩
  group s g hc h := ⟨fun x => by simpa using h.1 x, keptByEvents_cueValues.group s g hc h.2⟩
  frame s x h := ⟨fun y => by rw [State.frame_baseSkew]; exact State.skews_takeCues _ _ h.2 h.1 y,
    keptByEvents_cueValues.frame s x h.2⟩

theorem State.skewOk_iff (s : State) : s.skewOk = true ↔
    (∀ x, -128 ≤ (s.rsp.get x).baseSkew ∧ (s.rsp.get x).baseSkew ≤ 127) ∧ ∀ c ∈ s.psc.cues, c.body.ok = true := by
  have hsides : (∀ x, -128 ≤ (s.rsp.get x).baseSkew ∧ (s.rsp.get x).baseSkew ≤ 127) ↔
      (-128 ≤ s.rsp.a.baseSkew ∧ s.rsp.a.baseSkew ≤ 127) ∧ -128 ≤ s.rsp.b.baseSkew ∧ s.rsp.b.baseSkew ≤ 127 :=
    ⟨fun h => ⟨h .A, h .B⟩, fun h x => match x with
      | .A => h.1
      | .B => h.2⟩
  rw [hsides]
  simp [skewOk, PerSide.toList]

/-- Settles O57: settings are checked before they are stored, skews saturate, and a cue is clamped and inserted at its place. -/
theorem stepKeepsSettingsAndCues : Obligations.StepKeepsSettingsAndCues := by
  intro s t hset hskew hcues ht
  simp only [State.settingsOk, Bool.and_eq_true] at hset ⊢
  exact ⟨keptByEvents_settingsOk.step hset ht, t.skewOk_iff.mpr (keptByEvents_skews.step (s.skewOk_iff.mp hskew) ht),
    keptByEvents_cuesOrdered.step hcues ht⟩

/-! ### The reset state -/

/-- Settles O60: nothing runs in the reset state, every list is empty, and the settings have their defaults. -/
theorem resetIsSafe : Obligations.ResetIsSafe :=
  ⟨by decide, by decide, by decide, by decide, List.Pairwise.nil, List.Pairwise.nil, by decide, by decide⟩

end Sys2Proof.Machine
end
section
/-! SUPPORT. The checks of a request, for all twenty request kinds at once (spec/11 R163, R165, R168, spec/10 R155), and the obligations
about them. -/

namespace Sys2Proof.Machine

/-! ### The state checks are the table of R155 -/

section Refusals

variable (s : State)

/-- The refusal of the state check of a kind. -/
def State.refusal (s : State) (kind : Nat) : Option Status :=
  if refusedInState kind s.psc.state s.oq.blocks.isEmpty then some .state else none

theorem State.settingsRefused_eq {k : Nat} (hk : k ∈ [0x10, 0x11, 0x12, 0x13]) : s.settingsRefused = s.refusal k := by
  simp only [settingsRefused, refusal, refusedInState, if_pos hk]
  cases s.psc.state <;> rfl

theorem State.cuesRefused_eq {k : Nat} (hk : k ∈ [0x28, 0x29]) : s.cuesRefused = s.refusal k := by
  simp only [List.mem_cons, List.not_mem_nil, or_false] at hk
  rcases hk with rfl | rfl <;> simp only [cuesRefused, refusal, refusedInState] <;> cases s.psc.state <;> rfl

theorem State.armRefused_eq : s.armRefused = s.refusal 0x30 := by
  simp only [armRefused, refusal, refusedInState]
  cases s.psc.state with
  | ended => cases s.oq.blocks.isEmpty <;> rfl
  | idle | armed | running | draining => rfl

theorem State.startRefused_eq : s.startRefused = s.refusal 0x31 := by
  simp only [startRefused, refusal, refusedInState]
  cases s.psc.state <;> rfl

theorem State.stopRefused_eq {k : Nat} (hk : k ∈ [0x32, 0x33]) : s.stopRefused = s.refusal k := by
  simp only [List.mem_cons, List.not_mem_nil, or_false] at hk
  rcases hk with rfl | rfl <;> simp only [stopRefused, refusal, refusedInState] <;> cases s.psc.state <;> rfl

theorem State.discardRefused_eq : s.discardRefused = s.refusal 0x58 := by
  simp only [discardRefused, refusal, refusedInState]
  cases s.psc.state <;> rfl

end Refusals

/-! ### The statuses of the requests' own rules -/

/-- An answer of a request's own rule: neither of the statuses that the checks before it give. -/
def Answer.own (a : Answer) : Prop :=
  a.status ≠ .state ∧ a.status ≠ .badLength

theorem storedStatus_eq (clamped : Bool) : storedStatus clamped = .ok ∨ storedStatus clamped = .adjusted := by
  cases clamped
  · exact .inl rfl
  · exact .inr rfl

section Own

variable (s : State) (p : List Byte)

theorem own_of {a : Answer} (st : Status) (h : a.status = st) (hst : st ≠ .state ∧ st ≠ .badLength) : a.own :=
  ⟨h.symm ▸ hst.1, h.symm ▸ hst.2⟩

theorem own_refuse {st : Status} (hst : st ≠ .state ∧ st ≠ .badLength) : (refuse s st).own :=
  own_of st rfl hst

theorem own_stored {a : Answer} {clamped : Bool} (h : a.status = storedStatus clamped) : a.own := by
  rcases storedStatus_eq clamped with heq | heq <;> simp [Answer.own, h, heq]

theorem State.own_setSide : (s.setSide p).own := by
  unfold setSide
  split
  · exact own_refuse s (by decide)
  · exact own_stored rfl

theorem State.own_setPass : (s.setPass p).own := by
  unfold setPass
  split
  · exact own_refuse s (by decide)
  · exact own_stored rfl

theorem State.own_setStream : (s.setStream p).own := by
  unfold setStream
  split
  · exact own_refuse s (by decide)
  · exact own_of .ok rfl (by decide)

theorem State.own_setLine : (s.setLine p).own := by
  unfold setLine
  split
  · exact own_refuse s (by decide)
  · split
    · exact own_refuse s (by decide)
    · exact own_of .ok rfl (by decide)

theorem State.own_adjustSkew : (s.adjustSkew p).own := by
  unfold adjustSkew
  split
  · exact own_stored rfl
  · exact own_refuse s (by decide)

theorem State.own_readSkew : (s.readSkew p).own := by
  unfold readSkew
  split
  · exact own_of .ok rfl (by decide)
  · exact own_refuse s (by decide)

theorem State.own_postCue : (s.postCue p).own := by
  unfold postCue
  split
  · exact own_refuse s (by decide)
  · simp only
    split
    · cases hlate : s.cueLate _ _
      · exact own_stored rfl
      · exact own_of .late rfl (by decide)
    · exact own_refuse s (by decide)

theorem State.own_dropCue : (s.dropCue p).own := by
  unfold dropCue
  simp only
  split
  · split
    · exact own_of .ok rfl (by decide)
    · exact own_refuse s (by decide)
  · exact own_refuse s (by decide)

theorem State.own_arm : s.arm.own := by
  unfold arm
  split
  · exact own_of .badSetup rfl (by decide)
  · exact own_of .ok rfl (by decide)

theorem State.own_start : s.start.own := by
  unfold start
  split
  · exact own_of .already rfl (by decide)
  · exact own_of .ok rfl (by decide)

theorem State.own_stop : s.stop.own := by
  by_cases hdrain : s.psc.state = .draining
  · exact own_of .already (if_pos hdrain) (by decide)
  · exact own_of .ok (if_neg hdrain) (by decide)

theorem State.own_fetchBlock : s.fetchBlock.own := by
  unfold fetchBlock
  split
  · exact own_of .ok rfl (by decide)
  · exact own_refuse s (by decide)

theorem State.own_fetchNotice : s.fetchNotice.own := by
  unfold fetchNotice
  split
  · exact own_of .ok rfl (by decide)
  · exact own_refuse s (by decide)

theorem State.own_clearLines : (s.clearLines p).own := by
  unfold clearLines
  split
  · exact own_of .ok rfl (by decide)
  · exact own_refuse s (by decide)

end Own

/-! ### Every request is taken alike -/

/-- Every request goes through the checks of `takeRequest` with the kind and length of R168's table and the refusals of R155's, and
only then comes to its own rule. -/
theorem exec_request {s : State} {i : Instr} {k n : Nat} {p : List Byte} (hi : i.request = some (k, p)) (hk : (k, n) ∈ requestKinds) :
    ∃ a : Answer, exec i s = .next (s.takeRequest (BitVec.ofNat 8 k) n p (s.refusal k) a) ∧ a.own := by
  cases i <;> simp only [Instr.request, Option.some.injEq, Prod.mk.injEq, reduceCtorEq] at hi
  all_goals
    obtain ⟨rfl, rfl⟩ := hi
    simp only [requestKinds, List.mem_cons, List.not_mem_nil, Prod.mk.injEq, Nat.reduceEqDiff, false_and, true_and, or_false,
      false_or] at hk
    subst hk
  case setSide p => exact ⟨_, by rw [← s.settingsRefused_eq (by decide)]; rfl, s.own_setSide p⟩
  case setPass p => exact ⟨_, by rw [← s.settingsRefused_eq (by decide)]; rfl, s.own_setPass p⟩
  case setStream p => exact ⟨_, by rw [← s.settingsRefused_eq (by decide)]; rfl, s.own_setStream p⟩
  case setLine p => exact ⟨_, by rw [← s.settingsRefused_eq (by decide)]; rfl, s.own_setLine p⟩
  case adjustSkew p => exact ⟨_, rfl, s.own_adjustSkew p⟩
  case readSkew p => exact ⟨_, rfl, s.own_readSkew p⟩
  case postCue p => exact ⟨_, by rw [← s.cuesRefused_eq (by decide)]; rfl, s.own_postCue p⟩
  case dropCue p => exact ⟨_, by rw [← s.cuesRefused_eq (by decide)]; rfl, s.own_dropCue p⟩
  case arm => exact ⟨_, by rw [← s.armRefused_eq]; rfl, s.own_arm⟩
  case start => exact ⟨_, by rw [← s.startRefused_eq]; rfl, s.own_start⟩
  case stop => exact ⟨_, by rw [← s.stopRefused_eq (by decide)]; rfl, s.own_stop⟩
  case abort => exact ⟨_, by rw [← s.stopRefused_eq (by decide)]; rfl, own_of .ok rfl (by decide)⟩
  case discard => exact ⟨_, by rw [← s.discardRefused_eq]; rfl, own_of .ok rfl (by decide)⟩
  case fetchBlock => exact ⟨_, rfl, s.own_fetchBlock⟩
  case fetchNotice => exact ⟨_, rfl, s.own_fetchNotice⟩
  case clearLines p => exact ⟨_, rfl, s.own_clearLines p⟩
  case ident | takeDefects | readStatus | restart => exact ⟨_, rfl, own_of .ok rfl (by decide)⟩

/-- Settles O2: the length check comes before the state check and the request's own rule. -/
theorem wrongLengthIsRefused : Obligations.WrongLengthIsRefused := by
  intro s i k n p hlisten hi hk hlen
  obtain ⟨a, he, -⟩ := exec_request (s := s) hi hk
  rw [he, s.takeRequest_length _ _ _ _ _ hlisten hlen]
  rfl

/-- Settles O3: the refusals of the state check are R155's table, and no request's own rule answers STATE. -/
theorem stateRefusalsFollowTheTable : Obligations.StateRefusalsFollowTheTable := by
  intro s i k n p hlisten hi hk hlen
  obtain ⟨a, he, hown⟩ := exec_request (s := s) hi hk
  constructor
  · intro hrefused
    rw [he, State.refusal, if_pos hrefused, s.takeRequest_refused _ _ _ _ hlisten hlen]
    rfl
  · intro htaken
    rw [he, State.refusal, htaken, if_neg Bool.false_ne_true, s.takeRequest_taken _ _ _ _ hlisten hlen]
    exact ⟨_, _, _, rfl, a.send_link _, hown⟩

/-- A link port in line reset or past its request does not listen. -/
theorem State.not_listening {s : State} (h : s.clock.lineReset = true ∨ s.link.phase ∈ [.turnaround, .reply, .trail, .ignore]) :
    s.listening = false := by
  unfold listening
  rcases h with hreset | hphase
  · simp [hreset]
  · simp only [List.mem_cons, List.not_mem_nil, or_false] at hphase
    rcases hphase with hphase | hphase | hphase | hphase <;> simp [hphase]

theorem State.rejectRequest_of_listening {s : State} (h : s.listening = true) (kind : Byte) (st : Status) :
    s.rejectRequest kind st = s.replied kind st [] :=
  if_pos h

theorem State.rejectRequest_deaf {s : State} (h : s.listening = false) (kind : Byte) (st : Status) : s.rejectRequest kind st = s :=
  if_neg (Bool.not_eq_true _ ▸ h)

/-- A request has a kind of R168's table. -/
theorem mem_requestKinds_of_request {i : Instr} {k : Nat} {p : List Byte} (h : i.request = some (k, p)) :
    ∃ n, (k, n) ∈ requestKinds := by
  cases i <;> simp only [Instr.request, Option.some.injEq, Prod.mk.injEq, reduceCtorEq] at h
  all_goals
    obtain ⟨rfl, -⟩ := h
    simp [requestKinds]

/-- Settles O4: a listening port answers an envelope error at once, and a deaf one takes no request of any kind. -/
theorem envelopeErrorsAndDeafLink : Obligations.EnvelopeErrorsAndDeafLink := by
  intro s
  constructor
  · intro hlisten kind length
    exact ⟨congrArg Host.Outcome.next (State.rejectRequest_of_listening hlisten kind _),
      congrArg Host.Outcome.next (State.rejectRequest_of_listening hlisten kind _),
      congrArg Host.Outcome.next (State.rejectRequest_of_listening hlisten kind _)⟩
  · intro hdeaf
    have hoff := State.not_listening hdeaf
    constructor
    · intro i hi
      obtain ⟨⟨k, p⟩, hreq⟩ := Option.isSome_iff_exists.mp hi
      obtain ⟨n, hk⟩ := mem_requestKinds_of_request hreq
      obtain ⟨a, he, -⟩ := exec_request (s := s) hreq hk
      rw [he, s.takeRequest_deaf _ _ _ _ _ hoff]
    · intro kind length
      exact ⟨congrArg Host.Outcome.next (State.rejectRequest_deaf hoff kind _),
        congrArg Host.Outcome.next (State.rejectRequest_deaf hoff kind _),
        congrArg Host.Outcome.next (State.rejectRequest_deaf hoff kind _)⟩

end Sys2Proof.Machine
end
section
/-! SUPPORT. The replies that carry output and status: their layouts field by field (spec/11 section 11.8) and their lengths, and the
obligations about IDENT, READ_STATUS, FETCH_BLOCK, FETCH_NOTICE, TAKE_DEFECTS and DISCARD. -/

namespace Sys2Proof.Machine

/-! ### Lengths of fields -/

@[simp] theorem length_code1 (n : Nat) : (code1 n).length = 1 :=
  length_bytesOfNat 1 n

@[simp] theorem length_maybeBytes (n : Nat) (v : Option Nat) : (maybeBytes n v).length = n + 1 := by
  cases v <;> simp [maybeBytes, absentBytes]

@[simp] theorem length_maybeSigned (n : Nat) (v : Option Int) : (maybeSigned n v).length = n + 1 := by
  cases v <;> simp [maybeSigned, absentBytes]

@[simp] theorem length_maybeCode (v : Option Byte) : (maybeCode v).length = 2 := by
  cases v <;> simp [maybeCode, absentBytes]

/-- Sections of one length each, one after another. -/
theorem length_flatMap_const {α : Type} {f : α → List Byte} {n : Nat} (hf : ∀ x, (f x).length = n) (l : List α) :
    (l.flatMap f).length = l.length * n := by
  rw [List.length_flatMap, List.map_congr_left fun x _ => hf x, List.map_const', List.sum_replicate_nat]

/-! ### READ_STATUS (spec/11 R171) -/

section Status

variable (s : State)

theorem State.length_statusPass : s.statusPass.length = 13 := by
  simp [statusPass]

theorem State.length_statusCapture : s.statusCapture.length = 18 := by
  simp [statusCapture]

theorem State.length_statusSide (x : Side) : (s.statusSide x).length = 78 := by
  simp [statusSide]

theorem State.length_statusTrack (t : Track) : (s.statusTrack t).length = 6 := by
  simp [statusTrack]

theorem State.length_statusDefects : s.statusDefects.length = 17 := by
  simp [statusDefects]

theorem State.length_statusStream (i : Fin 8) : (s.statusStream i).length = 33 := by
  simp [statusStream]

theorem State.length_statusQueue : s.statusQueue.length = 2 := by
  simp [statusQueue]

theorem State.length_statusLine (i : Fin 6) : (s.statusLine i).length = 2 := by
  simp [statusLine]

theorem State.length_statusTacho : s.statusTacho.length = 12 := by
  simp [statusTacho]

theorem State.length_statusNotices : s.statusNotices.length = 3 := by
  simp [statusNotices]

/-- The snapshot is as long in every state as IDENT reports. -/
theorem State.length_status : s.status.length = statusLength := by
  simp only [status, List.length_append, length_flatMap_const s.length_statusSide, length_flatMap_const s.length_statusTrack,
    length_flatMap_const s.length_statusStream, length_flatMap_const s.length_statusLine, length_statusPass, length_statusCapture,
    length_statusDefects, length_statusQueue, length_statusTacho, length_statusNotices]
  rfl

end Status

/-- Settles O5: IDENT's fields are constants of the part, and every section of the snapshot has one length. -/
theorem identAndStatusReplies : Obligations.IdentAndStatusReplies := fun s hlisten =>
  ⟨congrArg Host.Outcome.next (s.takeRequest_taken _ _ _ _ hlisten rfl),
    congrArg Host.Outcome.next (s.takeRequest_taken _ _ _ _ hlisten rfl), s.length_status⟩

/-! ### Records (spec/11 R176) -/

theorem code1_boolCode (b : Bool) : code1 (boolCode b) = [byteOf (bitOf b)] := by
  cases b <;> rfl

theorem boolCode_eq_bitOf (b : Bool) : boolCode b = bitOf b := by
  cases b <;> rfl

theorem code1_eq_byteOf (n : Nat) : code1 n = [byteOf n] :=
  code1_eq_singleton n

theorem code1_trackMask (ts : TrackSet) : code1 (trackMask ts) = [maskByte ts] := by
  simp [code1_eq_byteOf, maskByte, trackMask, boolCode_eq_bitOf]

theorem byteOf_sideCode (x : Side) : byteOf (sideCode x) = sideByte x := by
  cases x <;> rfl

theorem byteOf_rank (k : DefectKind) : byteOf k.rank = kindByte k := by
  cases k <;> rfl

/-- The flags byte of a block header is the sum of its bits, from UNLOCKED at bit 0 to REVERSED at bit 7. -/
theorem Block.flagCode_eq_sum (b : Block) : b.flagCode =
    (([b.flags.unlocked, b.flags.held, b.flags.lifted, b.flags.limited, b.flags.lost, b.finalFlag, b.partialFlag,
      b.reversed].zipIdx.map fun p => bitOf p.1 * 2 ^ p.2).sum) := by
  simp only [Block.flagCode, boolCode_eq_bitOf, List.zipIdx_cons, List.zipIdx_nil, List.map_cons, List.map_nil, List.sum_cons,
    List.sum_nil]
  omega

theorem Block.record_eq_table (b : Block) : b.record = blockTable b := by
  have hformat : byteOf b.format.code = byteOf ([SampleFormat.s16, .s24, .s32].idxOf b.format) := by cases b.format <;> rfl
  simp only [Block.record, Block.headFields, blockTable, headPad, ← b.flagCode_eq_sum, code1_eq_byteOf, ← hformat]
  obtain ⟨_ | _, l, r⟩ | ts := b.source <;>
    simp [StreamSource.code, StreamSource.channelCode, trackMask, maskByte, boolCode_eq_bitOf, byteOf]

theorem length_blockTable (b : Block) : (blockTable b).length = 32 + b.data.length := by
  rw [← b.record_eq_table]
  simp [Block.record, Block.headFields, headPad]
  omega

theorem DefectEntry.record_eq_table (e : DefectEntry) : e.record = defectTable e := by
  have hdisposition : code1 ((e.disposition.map (·.code)).getD 0) =
      [byteOf ([none, some Disposition.lifted, some .limited, some .unlifted].idxOf e.disposition)] := by
    rcases e.disposition with _ | _ | _ | _ <;> rfl
  simp only [record, defectTable, hdisposition, code1_eq_byteOf, byteOf_rank]
  cases e.stream <;> simp [maskByte, trackMask, boolCode_eq_bitOf, byteOf]

theorem length_defectTable (e : DefectEntry) : (defectTable e).length = 20 := by
  simp [defectTable]

/-- Numbers below 256 in two or four bytes, the most significant first. -/
theorem bytesOfNat_two {n : Nat} (h : n < 256) : bytesOfNat 2 n = [0, byteOf n] := by
  simp [bytesOfNat, byteOf, Nat.div_eq_of_lt h]

theorem bytesOfNat_four {n : Nat} (h : n < 256) : bytesOfNat 4 n = [0, 0, 0, byteOf n] := by
  have h2 : n / 65536 = 0 := Nat.div_eq_of_lt (by omega)
  have h3 : n / 16777216 = 0 := Nat.div_eq_of_lt (by omega)
  simp [bytesOfNat, byteOf, Nat.div_eq_of_lt h, h2, h3]

theorem bitOf_lt (b : Bool) : bitOf b < 256 := by
  cases b <;> decide

theorem NoticeBody.bytes_eq_table (b : NoticeBody) : code1 b.code ++ b.details.1 ++ b.details.2 = noticeTable b := by
  cases b with
  | pass st cause n =>
    have hstate : st.code = [PassState.idle, .armed, .running, .draining, .ended].idxOf st ∧ st.code < 256 := by
      cases st <;> decide
    have hcause : causeCode cause = [none, some EndCause.stopped, some .endLine, some .stall, some .limit, some .aborted].idxOf cause := by
      match cause with
      | none | some .stopped | some .endLine | some .stall | some .limit | some .aborted => decide
    simp only [NoticeBody.code, details, noticeTable, code1_eq_byteOf, bytesOfNat_two hstate.2, ← hstate.1, ← hcause]
    rfl
  | lock x st =>
    cases x <;> cases st <;> rfl
  | line i high =>
    have hi : i.val < 256 := by omega
    simp only [NoticeBody.code, details, noticeTable, bytesOfNat_two hi, boolCode_eq_bitOf, bytesOfNat_four (bitOf_lt high)]
    rfl
  | stall begins i =>
    have hi : i.val < 256 := by omega
    simp only [NoticeBody.code, details, noticeTable, bytesOfNat_four hi, boolCode_eq_bitOf, bytesOfNat_two (bitOf_lt _)]
    rfl
  | lossSide x => cases x <;> rfl
  | lossStream i =>
    have hi : 16 + i.val < 256 := by omega
    simp only [NoticeBody.code, details, noticeTable, bytesOfNat_two hi]
    rfl
  | defectsFull k => cases k <;> rfl
  | cue b late =>
    simp only [NoticeBody.code, details, boolCode_eq_bitOf, bytesOfNat_four (bitOf_lt late)]
    cases b with
    | source x | lift x | gMax x | skew x =>
      cases x <;> simp [CueBody.kind, CueBody.targetCode, CueBody.target, noticeTable, code1_eq_byteOf, ← byteOf_sideCode, sideCode,
        byteOf]
    | mark ts =>
      simp only [CueBody.kind, CueBody.targetCode, code1_trackMask]
      rfl

theorem Notice.record_eq_table (n : Notice) : n.record = noticeTable n.body ++ bytesOfNat 5 n.origin := by
  rw [Notice.record, n.body.bytes_eq_table]

theorem length_noticeTable (b : NoticeBody) : (noticeTable b).length = 7 := by
  rcases b with _ | _ | _ | _ | _ | _ | _ | ⟨_ | _ | _ | _ | _, _⟩ <;> rfl

/-- Settles O6: the records of the heads are laid out as section 11.8's tables say. -/
theorem fetchRepliesCarryTheHead : Obligations.FetchRepliesCarryTheHead := by
  intro s hlisten
  have hblock : exec (.fetchBlock []) s = .next (s.fetchBlock.send 0x40) :=
    congrArg Host.Outcome.next (s.takeRequest_taken _ _ _ _ hlisten rfl)
  have hnotice : exec (.fetchNotice []) s = .next (s.fetchNotice.send 0x41) :=
    congrArg Host.Outcome.next (s.takeRequest_taken _ _ _ _ hlisten rfl)
  refine ⟨fun hnil => ?_, fun b rest hcons => ⟨?_, length_blockTable b⟩, fun hnil => ?_, fun n rest hcons => ⟨?_, length_noticeTable _⟩,
    fun width => ⟨fun v => ⟨length_bytesOfNat width v, natOfBytes_bytesOfNat width v⟩,
      fun v => ⟨length_bytesOfInt width v, natOfBytes_bytesOfInt width v⟩⟩⟩
  · simp only [hblock, State.fetchBlock, hnil]
    rfl
  · simp only [hblock, State.fetchBlock, hcons, b.record_eq_table]
    rfl
  · simp only [hnotice, State.fetchNotice, hnil]
    rfl
  · simp only [hnotice, State.fetchNotice, hcons, n.record_eq_table]
    rfl

/-! ### TAKE_DEFECTS (spec/05 R84) -/

/-- The marks apart, the selection leaves every entry. -/
theorem carryFirst_unmarked (n : Nat) (es : List DefectEntry) :
    (carryFirst n es).map (fun e => { e with carried := false }) = es.map fun e => { e with carried := false } := by
  induction es generalizing n with
  | nil => rfl
  | cons e es ih =>
    unfold carryFirst
    split <;> rw [List.map_cons, ih] <;> rfl

/-- The entries selected are the first SETTLED ones. -/
theorem filter_carryFirst (n : Nat) (es : List DefectEntry) :
    (carryFirst n es).filter (·.carried) = ((es.filter (·.isSettled)).take n).map fun e => { e with carried := true } := by
  induction es generalizing n with
  | nil => simp [carryFirst]
  | cons e es ih =>
    unfold carryFirst
    split
    next h =>
      obtain ⟨hsettled, hroom⟩ := by simpa using h
      obtain ⟨m, rfl⟩ := Nat.exists_eq_succ_of_ne_zero (Nat.pos_iff_ne_zero.mp hroom)
      simp [hsettled, ih]
    next h =>
      rw [List.filter_cons_of_neg (by simp), ih]
      by_cases hsettled : e.isSettled = true
      · have hnone : n = 0 := by simpa [hsettled] using h
        simp [hnone]
      · simp [hsettled]

theorem defectTable_carried (e : DefectEntry) : defectTable { e with carried := true } = defectTable e := rfl

/-- Settles O8: the marks are set on the first 16 SETTLED entries alone, and their records are the table's. -/
theorem takeDefectsSelectsSettledEntries : Obligations.TakeDefectsSelectsSettledEntries := by
  intro s hlisten
  refine ⟨carryFirst takeLimit s.dfl.entries, ?_, length_defectTable, carryFirst_unmarked _ _, filter_carryFirst _ _⟩
  have htaken : exec (.takeDefects []) s = .next (s.takeDefects.send 0x42) :=
    congrArg Host.Outcome.next (s.takeRequest_taken _ _ _ _ hlisten rfl)
  rw [htaken]
  simp only [State.takeDefects, filter_carryFirst, List.length_map, List.flatMap_map, DefectEntry.record_eq_table,
    defectTable_carried, code1_eq_singleton]
  rfl

/-! ### DISCARD (spec/05 R87) -/

/-- Settles O10: the state check admits DISCARD in ENDED alone. -/
theorem discardEmptiesListAndQueue : Obligations.DiscardEmptiesListAndQueue := by
  intro s hlisten
  have hexec : exec (.discard []) s = .next (s.takeRequest 0x58 0 [] s.discardRefused s.discard) := rfl
  constructor
  · intro hended
    have hopen : s.discardRefused = none := by rw [State.discardRefused, hended]
    rw [hexec, hopen, s.takeRequest_taken 0x58 0 [] _ hlisten rfl]
    rfl
  · intro hother
    have hrefused : s.discardRefused = some .state := by
      unfold State.discardRefused
      cases hst : s.psc.state <;> simp_all
    rw [hexec, hrefused, s.takeRequest_refused 0x58 0 [] _ hlisten rfl]
    rfl

end Sys2Proof.Machine
end
section
/-! SUPPORT. The splices taken by the host stay known to the splice query (spec/05 R83 to R85, spec/02 R23). -/

namespace Sys2Proof.Machine

/-- A SPLICE span on a track of side `x`. -/
def DefectEntry.splices (x : Side) (e : DefectEntry) : Bool :=
  decide (e.kind = .splice) && !trackEmpty (trackInter e.tracks (sideTracks x))

/-- The taken-splice end is the greatest of the old one and the ends of the splices taken. -/
theorem raiseTaken_eq (x : Side) (old : Option Nat) (es : List DefectEntry) :
    raiseTaken x old es = (old.toList ++ (es.filter (·.splices x)).map (·.last)).max? := by
  induction es generalizing old with
  | nil => cases old <;> simp [raiseTaken]
  | cons e es ih =>
    have hstep : raiseTaken x old (e :: es) = raiseTaken x (raiseTaken x old [e]) es := rfl
    rw [hstep, ih]
    by_cases hsplice : e.splices x = true
    · have hcond : e.kind = .splice ∧ trackEmpty (trackInter e.tracks (sideTracks x)) = false := by
        simpa [DefectEntry.splices] using hsplice
      cases old with
      | none => simp [raiseTaken, hcond, hsplice]
      | some a =>
        simp only [raiseTaken, hcond, List.foldl_cons, List.foldl_nil, and_self, if_true, Option.toList_some,
          List.filter_cons_of_pos hsplice, List.map_cons, List.cons_append, List.nil_append, List.max?_cons']
    · have hcond : ¬(e.kind = .splice ∧ trackEmpty (trackInter e.tracks (sideTracks x)) = false) := by
        simpa [DefectEntry.splices] using hsplice
      simp [raiseTaken, hcond, hsplice]

section Query

variable (d : DefectList) (x : Side)

theorem DefectList.takenSplice_removeCarried : d.removeCarried.takenSplice.get x =
    ((d.takenSplice.get x).toList ++ (d.entries.filter fun e => e.carried && e.splices x).map (·.last)).max? := by
  simp [removeCarried, raiseTaken_eq, List.filter_filter, Bool.and_comm]

/-- The query asks the entries held and the greatest end taken. -/
theorem DefectList.spliced_iff (lo hi : Nat) : d.spliced x lo hi = true ↔
    (∃ e ∈ d.entries, e.splices x = true ∧ e.start ≤ hi ∧ lo ≤ e.last) ∨ ∃ m, d.takenSplice.get x = some m ∧ lo ≤ m := by
  unfold spliced DefectEntry.splices
  cases d.takenSplice.get x <;> simp [and_assoc]

/-- A range meets an entry where some index lies in both. -/
theorem DefectEntry.overlaps_iff (e : DefectEntry) {lo hi : Nat} (h : lo ≤ hi) :
    (e.start ≤ hi ∧ lo ≤ e.last) ↔ ∃ n, lo ≤ n ∧ n ≤ hi ∧ e.start ≤ n ∧ n ≤ e.last := by
  have hrange := e.start_le_last
  constructor
  · intro hmeet
    exact ⟨max lo e.start, by omega⟩
  · rintro ⟨n, hn⟩
    omega

/-- An end that a taking counts is at most the greatest end taken. -/
theorem DefectList.exists_taken_ge {m : Nat}
    (h : m ∈ (d.takenSplice.get x).toList ++ (d.entries.filter fun e => e.carried && e.splices x).map (·.last)) :
    ∃ m', d.removeCarried.takenSplice.get x = some m' ∧ m ≤ m' := by
  rw [takenSplice_removeCarried]
  obtain ⟨m', hm'⟩ := Option.isSome_iff_exists.mp (List.isSome_max?_of_mem h)
  exact ⟨m', hm', (List.max?_eq_some_iff.mp hm').2 m h⟩

/-- A taking never makes the query forget: an entry that leaves the list raises the greatest end. -/
theorem DefectList.spliced_removeCarried {lo hi : Nat} (h : d.spliced x lo hi = true) : d.removeCarried.spliced x lo hi = true := by
  rw [spliced_iff] at h ⊢
  rcases h with ⟨e, he, hsplice, hmeet⟩ | ⟨m, hm, hlo⟩
  · by_cases hcarried : e.carried = true
    · obtain ⟨m', hm', hle⟩ := d.exists_taken_ge x (m := e.last)
        (List.mem_append_right _ (List.mem_map.mpr ⟨e, List.mem_filter.mpr ⟨he, by simp [hcarried, hsplice]⟩, rfl⟩))
      exact .inr ⟨m', hm', Nat.le_trans hmeet.2 hle⟩
    · exact .inl ⟨e, List.mem_filter.mpr ⟨he, by simpa using hcarried⟩, hsplice, hmeet⟩
  · obtain ⟨m', hm', hle⟩ := d.exists_taken_ge x (m := m) (List.mem_append_left _ (by simp [hm]))
    exact .inr ⟨m', hm', Nat.le_trans hlo hle⟩

end Query

/-- Settles O9: the end of each splice taken is counted before its entry is gone. -/
theorem takenSplicesStayKnown : Obligations.TakenSplicesStayKnown := by
  intro d x lo hi hle covers d'
  refine ⟨rfl, ?_, rfl, rfl, d.takenSplice_removeCarried x, ?_, d.spliced_removeCarried x⟩
  · rw [Bool.eq_iff_iff]
    simp [d', DefectList.removeCarried]
  · simp only [d.spliced_iff x, DefectEntry.overlaps_iff _ hle]
    rfl

end Sys2Proof.Machine
end
section
/-! SUPPORT. The queue of commands, and the events of an exchange: select, the ends of replies, the restart and line reset (spec/11 R163,
R166, R174, R175). -/

namespace Sys2Proof.Machine

/-! ### The queue of commands -/

theorem exec_next (c : Instr) (s : State) : ∃ t, exec c s = .next t := by
  cases c <;> exact ⟨_, rfl⟩

/-- No command touches the queue. -/
theorem keptByEvents_pending (l : List Instr) : KeptByEvents fun s => s.pending = l where
  postCue s p _ h := by rw [State.postCue_keeps]; exact h
  armPass _ h := h
  restartPart _ h := h
  lineResetPart _ _ _ h := h

theorem exec_pending {c : Instr} {s t : State} (h : exec c s = .next t) : t.pending = s.pending :=
  (keptByEvents_pending s.pending).exec rfl h

/-- Settles O1: a step is `exec` of the front command, or `idle`, which does the first of the three that applies. -/
theorem stepTakesTheFrontCommand : Obligations.StepTakesTheFrontCommand := by
  intro s
  constructor
  · intro c rest hfront
    obtain ⟨t, ht⟩ := exec_next c { s with pending := rest }
    exact ⟨by rw [step, hfront], t, ht, exec_pending ht⟩
  · intro hempty
    have hidle : step s = .next s.idle := by rw [step, hempty]
    refine ⟨fun hreset => ?_, fun hfree e hdue => ?_, fun hfree hdue => ?_⟩
    · rw [hidle, State.idle, if_pos hreset]
    · simp [hidle, State.idle, hfree, hdue]
    · simp [hidle, State.idle, hfree, hdue, State.wideTick]

/-! ### What is in flight -/

section InFlight

variable {s : State} {r : Reply}

/-- An OK reply that has not been clocked out is in flight under its own kind. -/
theorem State.inFlight_eq (hreset : s.clock.lineReset = false) (hphase : s.link.phase ∈ [.turnaround, .reply])
    (hreply : s.link.reply = some r) (kind : Byte) : s.inFlight kind = (decide (r.kind = kind) && decide (r.status = .ok)) := by
  simp only [List.mem_cons, List.not_mem_nil, or_false] at hphase
  rcases hphase with hphase | hphase <;> simp [inFlight, hreset, hphase, hreply]

/-- Nothing is in flight outside TURNAROUND and REPLY. -/
theorem State.inFlight_of_phase (hphase : s.link.phase ∉ [.turnaround, .reply]) (kind : Byte) : s.inFlight kind = false := by
  unfold inFlight
  cases hp : s.link.phase <;> simp_all

end InFlight

/-- The grantee of a freed slot, as the lowest-numbered waiting stream without a grant. -/
theorem State.nextGrantee_eq (s : State) : s.nextGrantee = streamList.find? fun i =>
    decide ((s.sas.get i).state = .waiting ∨ (s.sas.get i).state = .finalWait) && decide (i ∉ s.oq.granted) := by
  simp [nextGrantee, waiting, List.find?_filter, Stream.waits]

/-- Settles O7: a removal command takes effect where a reply of its own kind is in flight. -/
theorem completedRepliesRemoveTheirItems : Obligations.CompletedRepliesRemoveTheirItems := by
  intro s r hreset hphase hreply hok next
  have hflight : ∀ kind, s.inFlight kind = decide (r.kind = kind) := fun kind => by
    simp [State.inFlight_eq hreset hphase hreply, hok]
  have hnext : s.nextGrantee = next := s.nextGrantee_eq
  refine ⟨?_, ?_, ?_⟩
  · simp only [exec, execBlockRemoval, hflight, decide_eq_true_eq, ← hnext]
    rfl
  · simp only [exec, execNoticeRemoval, hflight, decide_eq_true_eq]
    rfl
  · simp only [exec, execDefectRemoval, hflight, decide_eq_true_eq]
    rfl

/-! ### Select -/

theorem exec_selectRise {s : State} (hreset : s.clock.lineReset = false) :
    exec .selectRise s = .next { s.cutShort with link := ⟨.idle, [], 0, none⟩ } := by
  change execSelectRise s = _
  rw [execSelectRise, hreset]
  rfl

theorem State.cutShort_quiet {s : State} (htake : s.inFlight 0x42#8 = false) (hrestart : s.inFlight 0x7F#8 = false) :
    s.cutShort = s := by
  rw [cutShort, htake, hrestart]
  rfl

theorem State.cutShort_take {s : State} (htake : s.inFlight 0x42#8 = true) : s.cutShort = { s with dfl := s.dfl.clearCarried } :=
  if_pos htake

theorem State.cutShort_restart {s : State} (htake : s.inFlight 0x42#8 = false) (hrestart : s.inFlight 0x7F#8 = true) :
    s.cutShort = s.restartPart := by
  rw [cutShort, htake, hrestart]
  rfl

/-- Settles O12: what select rising cuts short is in flight, and only a TAKE_DEFECTS reply has marks to lose. -/
theorem selectBoundsAnExchange : Obligations.SelectBoundsAnExchange := by
  intro s
  refine ⟨fun hreset => ⟨?_, ?_⟩, fun hfree => ⟨fun hidle => ?_, fun hbusy => ?_, fun hphase => ?_, fun r hphase hreply => ⟨?_, ?_⟩⟩⟩
  · simp [exec, execSelectFall, hreset]
  · simp [exec, execSelectRise, hreset]
  · simp [exec, execSelectFall, hfree, hidle, LinkPort.idle]
  · simp [exec, execSelectFall, hbusy]
  · rw [exec_selectRise hfree, State.cutShort_quiet (State.inFlight_of_phase hphase _) (State.inFlight_of_phase hphase _)]
  · intro hother
    have hquiet : ∀ kind ∈ [0x42#8, 0x7F#8], s.inFlight kind = false := fun kind hkind => by
      rw [State.inFlight_eq hfree hphase hreply]
      rcases hother with hstatus | hkind'
      · simp [hstatus]
      · have hne : r.kind ≠ kind := fun heq => hkind' (heq ▸ hkind)
        simp [hne]
    rw [exec_selectRise hfree, State.cutShort_quiet (hquiet _ (by decide)) (hquiet _ (by decide))]
  · intro hok hkind
    have htake : s.inFlight 0x42#8 = true := by simp [State.inFlight_eq hfree hphase hreply, hok, hkind]
    rw [exec_selectRise hfree, State.cutShort_take htake]
    rfl

/-! ### Restart and line reset -/

/-- A reply in flight stands in TURNAROUND or REPLY, with its kind and status OK. -/
theorem State.of_inFlight {s : State} {kind : Byte} (h : s.inFlight kind = true) :
    s.clock.lineReset = false ∧ s.link.phase ∈ [.turnaround, .reply] ∧ ∃ r, s.link.reply = some r ∧ r.kind = kind := by
  simp only [inFlight, Bool.and_eq_true, Bool.not_eq_true'] at h
  obtain ⟨⟨hreset, hphase⟩, hreply⟩ := h
  refine ⟨hreset, ?_, ?_⟩
  · cases hp : s.link.phase <;> simp_all
  · cases hr : s.link.reply <;> simp_all

/-- Settles O13: the restart is deferred to the end of its reply, however the exchange ends. -/
theorem restartTakesEffectAfterItsReply : Obligations.RestartTakesEffectAfterItsReply := by
  intro s
  refine ⟨fun hlisten => congrArg Host.Outcome.next (s.takeRequest_taken _ _ _ _ hlisten rfl), fun hnone => ?_, fun hflight => ?_⟩
  · exact congrArg Host.Outcome.next (if_neg (Bool.not_eq_true _ ▸ hnone))
  · obtain ⟨hreset, hphase, r, hreply, hkind⟩ := State.of_inFlight hflight
    have htake : s.inFlight 0x42#8 = false := by simp [State.inFlight_eq hreset hphase hreply, hkind]
    refine ⟨s.trail.restartPart, congrArg Host.Outcome.next (if_pos hflight), ?_, rfl, rfl, rfl, rfl, rfl, rfl, rfl, rfl, rfl, rfl, rfl,
      fun x => ?_, fun k => ?_⟩
    · rw [exec_selectRise hreset, State.cutShort_restart htake hflight]
      rfl
    · cases x <;> exact ⟨rfl, rfl, rfl, rfl, rfl, rfl, rfl, rfl, rfl⟩
    · cases k <;> exact ⟨rfl, rfl, rfl⟩

/-- Settles O14: line reset keeps the queue of commands and the model's clock alone, and an empty part asserts no attention. -/
theorem lineResetLeavesTheResetState : Obligations.LineResetLeavesTheResetState := by
  intro s levels held free
  have hrelease : ∀ t : State, t.clock.lineReset = true → exec (.resetRelease levels) t = .next (t.lineResetPart false levels) :=
    fun t ht => by simp [exec, execResetRelease, ht]
  refine ⟨?_, rfl, hrelease held rfl, rfl, fun hreset => hrelease s hreset, fun hfree => by simp [exec, execResetRelease, hfree]⟩
  rfl

end Sys2Proof.Machine
end
section
/-! SUPPORT. Request frames and reply frames on the link, byte by byte (spec/11 R163 to R166, R176). -/

namespace Sys2Proof

open Sys2Proof.Machine

/-! ### Request frames -/

theorem bytesOfNat_two_eq (n : Nat) : bytesOfNat 2 n = [BitVec.ofNat 8 (n / 256), BitVec.ofNat 8 n] := by
  simp [bytesOfNat]

/-- A request frame opened at its fixed fields. -/
theorem requestFrame_eq (kind : Byte) (p : List Byte) : requestFrame kind p = 0xA5#8 :: kind :: BitVec.ofNat 8 (p.length / 256) ::
    BitVec.ofNat 8 p.length :: (p ++ bytesOfNat 2 (crc16 (requestBody kind p)).toNat) := by
  simp [requestFrame, requestBody, bytesOfNat_two_eq]

/-- A length of at most 512 is read back from its two bytes. -/
theorem natOfBytes_length {n : Nat} (h : n ≤ 512) : natOfBytes [BitVec.ofNat 8 (n / 256), BitVec.ofNat 8 n] = n := by
  rw [← bytesOfNat_two_eq, natOfBytes_bytesOfNat]
  exact Nat.mod_eq_of_lt (by omega)

/-- Past its fixed fields a request is complete exactly at its last CRC byte. -/
theorem decodeBody_of_length {kind : Byte} {n : Nat} (hn : n ≤ 512) (rest : List Byte) :
    decodeBody kind (BitVec.ofNat 8 (n / 256)) (BitVec.ofNat 8 n) rest = if rest.length = n + 2 then
      some (if bytesOfNat 2 (crc16 (requestBody kind (rest.take n))).toNat = rest.drop n then requestOf kind (rest.take n)
        else .checkFailedRequest kind) else none := by
  simp only [decodeBody, natOfBytes_length hn, if_neg (Nat.not_lt.mpr hn)]

theorem decodeRequest_requestFrame {kind : Byte} {p : List Byte} (hp : p.length ≤ 512) :
    decodeRequest (requestFrame kind p) = some (requestOf kind p) := by
  rw [requestFrame_eq, decodeRequest, if_pos rfl, decodeBody_of_length hp]
  simp

/-- Too few bytes for the fixed fields complete nothing. -/
theorem decodeRequest_short {bs : List Byte} (h : bs.length < 4) : decodeRequest bs = none := by
  match bs with
  | [] | [_] | [_, _] | [_, _, _] => rfl
  | _ :: _ :: _ :: _ :: _ => simp at h; omega

theorem decodeRequest_prefix {kind : Byte} {p : List Byte} (hp : p.length ≤ 512) {n : Nat} (hn : n < (requestFrame kind p).length) :
    decodeRequest ((requestFrame kind p).take n) = none := by
  by_cases hshort : n < 4
  · exact decodeRequest_short (by rw [List.length_take]; omega)
  · obtain ⟨m, rfl⟩ := Nat.exists_eq_add_of_le' (Nat.not_lt.mp hshort)
    rw [requestFrame_eq] at hn ⊢
    simp only [List.length_cons, List.length_append, length_bytesOfNat] at hn
    simp only [List.take_succ_cons]
    rw [decodeRequest, if_pos rfl, decodeBody_of_length hp, if_neg]
    rw [List.length_take, List.length_append, length_bytesOfNat]
    omega

/-- A command that is a request is the request of its kind and payload. -/
theorem requestOf_of_request {i : Instr} {k : Nat} {p : List Byte} (h : i.request = some (k, p)) :
    requestOf (BitVec.ofNat 8 k) p = i := by
  cases i <;> simp only [Instr.request, Option.some.injEq, Prod.mk.injEq, reduceCtorEq] at h
  all_goals
    obtain ⟨rfl, rfl⟩ := h
    rfl

/-- A well-formed request has a payload of at most 512 bytes. -/
theorem length_le_of_wellFormed {i : Instr} {k : Nat} {p : List Byte} (hwf : i.wellFormed = true) (h : i.request = some (k, p)) :
    p.length ≤ 512 := by
  cases i <;> simp only [Instr.request, Option.some.injEq, Prod.mk.injEq, reduceCtorEq] at h
  all_goals
    obtain ⟨-, rfl⟩ := h
    exact of_decide_eq_true hwf

/-- What the frame of a well-formed request is. -/
theorem exists_frame {i : Instr} {f : List Byte} (hwf : i.wellFormed = true) (hf : encodeRequest i = some f) :
    ∃ k p, i.request = some (k, p) ∧ p.length ≤ 512 ∧ f = requestFrame (BitVec.ofNat 8 k) p := by
  obtain ⟨⟨k, p⟩, hreq, rfl⟩ := Option.map_eq_some_iff.mp hf
  exact ⟨k, p, hreq, length_le_of_wellFormed hwf hreq, rfl⟩

/-- Settles O15: the length field says where the frame ends, so that no proper part of it is complete and the whole is. -/
theorem requestFramesDecode : Obligations.RequestFramesDecode := by
  intro i f hwf hf
  obtain ⟨k, p, hreq, hlen, rfl⟩ := exists_frame hwf hf
  exact ⟨by rw [decodeRequest_requestFrame hlen, requestOf_of_request hreq], fun n hn => decodeRequest_prefix hlen hn⟩

namespace Machine

/-! ### A frame clocked in -/

/-- Bytes of a request that is not complete are gathered, and the byte that completes it takes it. -/
theorem State.clockBytes_request {s : State} {i : Instr} (hreset : s.clock.lineReset = false) {b : Byte} (rest got : List Byte)
    (hlast : decodeRequest (got ++ rest ++ [b]) = some i)
    (hopen : ∀ n, n < (got ++ rest ++ [b]).length → decodeRequest ((got ++ rest ++ [b]).take n) = none) :
    State.clockBytes { s with link := ⟨.request, got, 0, none⟩ } (rest ++ [b]) =
      { s with link := ⟨.request, got ++ rest, 0, none⟩ }.after i := by
  induction rest generalizing got with
  | nil =>
    simp only [List.append_nil] at hlast
    simp [clockBytes, clockByte, hreset, requestByte, hlast]
  | cons c rest ih =>
    have hshift : got ++ c :: rest = got ++ [c] ++ rest := by simp
    have hnone : decodeRequest (got ++ [c]) = none := by
      have htake := hopen (got.length + 1) (by simp)
      rwa [hshift, List.append_assoc, List.take_left' (by simp)] at htake
    have hbyte : State.clockByte { s with link := ⟨.request, got, 0, none⟩ } c =
        { s with link := ⟨.request, got ++ [c], 0, none⟩ } := by
      simp [clockByte, hreset, requestByte, hnone]
    rw [hshift] at hlast hopen ⊢
    rw [List.cons_append, clockBytes, List.foldl_cons, hbyte]
    exact ih (got ++ [c]) hlast hopen

/-- Settles O16: the first byte begins the request, the rest are gathered, and no proper part of the frame is complete. -/
theorem clockedFrameIsTaken : Obligations.ClockedFrameIsTaken := by
  intro s i f hwf hf hreset hlink
  obtain ⟨hwhole, hprefix⟩ := requestFramesDecode i f hwf hf
  obtain ⟨k, p, -, -, rfl⟩ := exists_frame hwf hf
  obtain ⟨body, b, hbody⟩ := (List.eq_nil_or_concat (BitVec.ofNat 8 k :: BitVec.ofNat 8 (p.length / 256) ::
    BitVec.ofNat 8 p.length :: (p ++ bytesOfNat 2 (crc16 (requestBody (BitVec.ofNat 8 k) p)).toNat))).resolve_left
      (List.cons_ne_nil _ _)
  have hframe : requestFrame (BitVec.ofNat 8 k) p = [0xA5#8] ++ body ++ [b] := by
    rw [requestFrame_eq, hbody, List.concat_eq_append]
    rfl
  have hfirst : s.clockByte 0xA5#8 = { s with link := ⟨.request, [0xA5#8], 0, none⟩ } := by
    simp [State.clockByte, hreset, hlink, State.huntByte]
  rw [hframe] at hwhole hprefix ⊢
  rw [List.dropLast_concat, ← State.clockBytes_request hreset body [0xA5#8] hwhole hprefix, ← hfirst]
  rfl

/-! ### A reply clocked out -/

theorem Reply.frame_ne_nil (r : Reply) : r.frame ≠ [] := by
  simp [Reply.frame]

/-- From byte `k` of a reply the rest of its frame is sent, and its last byte is the event of its end. -/
theorem State.clockBytes_reply {s : State} (hreset : s.clock.lineReset = false) (r : Reply) (ins : List Byte) (k : Nat)
    (hk : k < r.frame.length) (hins : ins.length = r.frame.length - k) :
    State.bytesOut { s with link := ⟨.reply, [], k, some r⟩ } ins = r.frame.drop k ∧
      State.clockBytes { s with link := ⟨.reply, [], k, some r⟩ } ins = match replyEnd r with
        | some i => { s with link := ⟨.reply, [], r.frame.length - 1, some r⟩ }.after i
        | none => { s with link := ⟨.trail, [], r.frame.length - 1, some r⟩ } := by
  induction ins generalizing k with
  | nil => simp at hins; omega
  | cons b ins ih =>
    have hout : State.dataOut { s with link := ⟨.reply, [], k, some r⟩ } = r.frame[k] := by
      simp [dataOut, hreset, List.getElem?_eq_getElem hk]
    have hbyte : State.clockByte { s with link := ⟨.reply, [], k, some r⟩ } b =
        State.replyByte { s with link := ⟨.reply, [], k, some r⟩ } r := by
      simp [clockByte, hreset]
    simp only [List.length_cons] at hins
    rw [bytesOut, clockBytes, List.foldl_cons, hout, hbyte, List.drop_eq_getElem_cons hk]
    by_cases hmore : k + 1 < r.frame.length
    · have hnext : State.replyByte { s with link := ⟨.reply, [], k, some r⟩ } r = { s with link := ⟨.reply, [], k + 1, some r⟩ } :=
        if_pos hmore
      obtain ⟨ihout, ihend⟩ := ih (k + 1) hmore (by omega)
      rw [hnext, ihout]
      exact ⟨rfl, ihend⟩
    · have hlast : k = r.frame.length - 1 := by omega
      have hnil : ins = [] := List.length_eq_zero_iff.mp (by omega)
      subst hnil
      refine ⟨by simp [bytesOut, List.drop_eq_nil_of_le (Nat.not_lt.mp hmore)], ?_⟩
      rw [List.foldl_nil, replyByte, if_neg hmore, hlast]
      cases replyEnd r <;> rfl

/-- Settles O17: two bytes of turnaround, then the frame. -/
theorem replyIsClockedOut : Obligations.ReplyIsClockedOut := by
  intro s r ins hreset hlink hins
  obtain ⟨b, c, ins, rfl⟩ : ∃ b c ins', ins = b :: c :: ins' := by
    match ins, hins with
    | b :: c :: ins', _ => exact ⟨b, c, ins', rfl⟩
    | [_], h => simp at h; omega
  have hpos := List.length_pos_iff.mpr r.frame_ne_nil
  obtain ⟨hout, hend⟩ := State.clockBytes_reply (s := s) hreset r ins 0 hpos (by simp at hins; omega)
  have hone : s.clockByte b = { s with link := ⟨.turnaround, [], 1, some r⟩ } := by
    simp [State.clockByte, hreset, hlink, answered]
  have htwo : State.clockByte { s with link := ⟨.turnaround, [], 1, some r⟩ } c = { s with link := ⟨.reply, [], 0, some r⟩ } := by
    simp [State.clockByte, hreset]
  have hdata : s.dataOut = 0xFF#8 := by simp [State.dataOut, hreset, hlink, answered]
  have hdata' : State.dataOut { s with link := ⟨.turnaround, [], 1, some r⟩ } = 0xFF#8 := by simp [State.dataOut, hreset]
  constructor
  · rw [State.bytesOut, State.bytesOut, hone, htwo, hdata, hdata', hout]
    rfl
  · rw [State.clockBytes, List.foldl_cons, List.foldl_cons, hone, htwo]
    exact hend

end Machine
end Sys2Proof
end
section
/-! SUPPORT. The settings requests read the fields of their layouts back, refuse what is outside its list, and store the rest in its range
(spec/11 R169, R176). -/

namespace Sys2Proof.Machine

/-! ### Fields of a layout -/

/-- A field beyond a part of the payload is a field of the rest. -/
theorem field_skip {bs : List Byte} {offset : Nat} (h : bs.length ≤ offset) (rest : List Byte) (n : Nat) :
    field (bs ++ rest) offset n = field rest (offset - bs.length) n := by
  simp [field, List.drop_append, List.drop_eq_nil_of_le h]

/-- A field at the front of the payload. -/
theorem field_front (n v : Nat) (rest : List Byte) : field (bytesOfNat n v ++ rest) 0 n = v % 256 ^ n := by
  rw [field, List.drop_zero, List.take_left' (length_bytesOfNat n v), natOfBytes_bytesOfNat]

theorem field_whole (n v : Nat) : field (bytesOfNat n v) 0 n = v % 256 ^ n := by
  simpa using field_front n v []

theorem field_code1 {v : Nat} (hv : v < 256) (rest : List Byte) : field (code1 v ++ rest) 0 1 = v := by
  rw [code1, field_front, Nat.pow_one, Nat.mod_eq_of_lt hv]

theorem field_code1_whole {v : Nat} (hv : v < 256) : field (code1 v) 0 1 = v := by
  simpa using field_code1 hv []

theorem byteAt_eq_getElem {p : List Byte} {i : Nat} (h : i < p.length) : byteAt p i = p[i].toNat := by
  rw [byteAt, List.getD_eq_getElem?_getD, List.getElem?_eq_getElem h, Option.getD_some]

theorem field_pair {p : List Byte} {i : Nat} (h : i + 1 < p.length) : field p i 2 = pairAt p i := by
  rw [pairAt, byteAt_eq_getElem h, byteAt_eq_getElem (Nat.lt_of_succ_lt h), field, List.drop_eq_getElem_cons (Nat.lt_of_succ_lt h),
    List.drop_eq_getElem_cons h]
  simp only [List.take_succ_cons, List.take_zero, natOfBytes, List.foldl_cons, List.foldl_nil]
  omega

theorem field_triple {p : List Byte} {i : Nat} (h : i + 2 < p.length) : field p i 3 = 256 * pairAt p i + byteAt p (i + 2) := by
  have h1 := Nat.lt_of_succ_lt h
  rw [pairAt, byteAt_eq_getElem h, byteAt_eq_getElem h1, byteAt_eq_getElem (Nat.lt_of_succ_lt h1), field,
    List.drop_eq_getElem_cons (Nat.lt_of_succ_lt h1), List.drop_eq_getElem_cons h1, List.drop_eq_getElem_cons h]
  simp only [List.take_succ_cons, List.take_zero, natOfBytes, List.foldl_cons, List.foldl_nil]
  omega

/-! ### Codes -/

theorem code_of_ofCode {α : Type} {code : α → Nat} {values : List α} {n : Nat} {v : α} (h : ofCode code values n = some v) :
    code v = n := by
  simpa using List.find?_some h

theorem oneOf_of_mem {values : List Nat} {n : Nat} (h : n ∈ values) : oneOf values n = some n :=
  ofCode_code (fun _ _ _ _ h => h) h

theorem boolOf_boolCode (b : Bool) : boolOf (boolCode b) = some b := by
  cases b <;> rfl

theorem sourceOf_code (x : SideSource) : sourceOf x.code = some x := by
  cases x <;> rfl

theorem skewModeOf_code (m : SkewMode) : skewModeOf m.code = some m := by
  cases m <;> rfl

theorem bandOf_code (b : DetectBand) : bandOf b.code = some b := by
  cases b <;> rfl

theorem formatOf_code (f : SampleFormat) : formatOf f.code = some f := by
  cases f <;> rfl

theorem actionOf_code (a : LineAction) : actionOf a.code = some a := by
  cases a <;> rfl

theorem edgeOf_code (e : Edge) : edgeOf e.code = some e := by
  cases e <;> rfl

theorem streamOf_val (i : Fin 8) : streamOf i.val = some i := by
  decide +revert

theorem lineOf_val (i : Fin 6) : lineOf i.val = some i := by
  decide +revert

theorem boolCode_le (b : Bool) : boolCode b ≤ 1 := by
  cases b <;> decide

theorem SideSource.code_le (x : SideSource) : x.code ≤ 4 := by
  cases x <;> decide

theorem SkewMode.code_le (m : SkewMode) : m.code ≤ 1 := by
  cases m <;> decide

theorem DetectBand.code_le (b : DetectBand) : b.code ≤ 1 := by
  cases b <;> decide

theorem SampleFormat.code_le (f : SampleFormat) : f.code ≤ 2 := by
  cases f <;> decide

theorem LineAction.code_le (a : LineAction) : a.code ≤ 5 := by
  cases a <;> decide

theorem Edge.code_le (e : Edge) : e.code ≤ 2 := by
  cases e <;> decide

theorem streamOf_le {n : Nat} {i : Fin 8} (h : streamOf n = some i) : n ≤ 7 := by
  have hcode : i.val = n := code_of_ofCode h
  omega

theorem lineOf_le {n : Nat} {i : Fin 6} (h : lineOf n = some i) : n ≤ 5 := by
  have hcode : i.val = n := code_of_ofCode h
  omega

theorem mem_and_eq_of_oneOf {values : List Nat} {n m : Nat} (h : oneOf values n = some m) : n ∈ values := by
  have hcode : m = n := code_of_ofCode h
  exact hcode ▸ mem_of_oneOf h

theorem code_le_of_ofCode {α : Type} {code : α → Nat} {values : List α} {n bound : Nat} {v : α} (h : ofCode code values n = some v)
    (hbound : ∀ w, code w ≤ bound) : n ≤ bound :=
  code_of_ofCode h ▸ hbound v

/-- A value that was stored as it was sent is OK, another one ADJUSTED. -/
theorem storedStatus_ne {α : Type} [DecidableEq α] (a b : α) : storedStatus (decide (a ≠ b)) = if a = b then .ok else .adjusted := by
  by_cases h : a = b <;> simp [storedStatus, h]

theorem State.settingsRefused_eq_none {s : State} (h : s.psc.state ∈ [PassState.idle, .ended]) : s.settingsRefused = none := by
  simp only [List.mem_cons, List.not_mem_nil, or_false] at h
  obtain h | h := h <;> simp [settingsRefused, h]

/-! ### SET_SIDE -/

theorem sideRequest_sideBytes (x : Side) {g : SideSettings} (hg : g.sendable = true) : sideRequest (sideBytes x g) = some (x, g) := by
  simp only [SideSettings.sendable, decide_eq_true_eq] at hg
  obtain ⟨hpNom, htNom, hwindow, hspeed, hsmoothing, hconfirm, hhold, hacquire, hdThr, hrThr, hdebounce, hgMax⟩ := hg
  have hcodes := And.intro (sideCode_le_one x) <| And.intro (boolCode_le g.enabled) <| And.intro g.source.code_le <|
    And.intro g.skewMode.code_le <| And.intro g.detectBand.code_le (boolCode_le g.lift)
  have hwindow' : g.window < 65536 := by simp at hwindow; omega
  have hspeed' : g.speedWindow < 256 := by simp at hspeed; omega
  have hsmoothing' : g.smoothing < 256 := by simp at hsmoothing; omega
  have hdebounce' : g.debounce < 256 := by simp at hdebounce; omega
  simp only [sideRequest, sideBytes, List.append_assoc]
  simp (disch := first | omega | simp) only [field_skip, field_code1, field_front, field_whole, length_code1, length_bytesOfNat,
    Nat.reduceSub, Nat.reducePow, Nat.mod_eq_of_lt]
  simp [sideOf_sideCode, boolOf_boolCode, sourceOf_code, skewModeOf_code, bandOf_code, oneOf_of_mem hwindow, oneOf_of_mem hspeed,
    oneOf_of_mem hsmoothing, oneOf_of_mem hdebounce]

theorem SideSettings.clamped_eq {g : SideSettings} (hg : g.sendable = true) :
    g.clamped =
      { g with
        pNom := if g.pNom = 0 then 0 else max 768 g.pNom, tNom := max 32 g.tNom, confirm := max 1 (min 16 g.confirm)
        holdLimit := max 1 g.holdLimit, acquire := max 1 (min 64 g.acquire), dThr := max 256 (min 3584 g.dThr)
        rThr := max (max 256 (min 3584 g.dThr) + 1) (min 4095 g.rThr), gMax := max 4096 (min 16384 g.gMax) } := by
  simp only [SideSettings.sendable, decide_eq_true_eq] at hg
  obtain ⟨hpNom, htNom, -, -, -, hconfirm, hhold, hacquire, -, -, -, -⟩ := hg
  have hd : max 256 (min 3584 g.dThr) + 1 ≤ 4095 := by omega
  simp [SideSettings.clamped, clampPNom, clampNat_eq_max_min, hd, Nat.min_eq_right (Nat.le_of_lt_succ hpNom),
    Nat.min_eq_right (Nat.le_of_lt_succ htNom), Nat.min_eq_right (Nat.le_of_lt_succ hhold)]

theorem sideRequest_eq_none {p : List Byte} (hp : p.length = 24) (h : badSideBytes p = true) : sideRequest p = none := by
  rw [Option.eq_none_iff_forall_ne_some]
  intro r hr
  simp only [sideRequest, Option.bind_eq_bind, Option.bind_eq_some_iff] at hr
  obtain ⟨x, hx, enabled, henabled, source, hsource, window, hwindow, speed, hspeed, smoothing, hsmoothing, mode, hmode, band, hband,
    debounce, hdebounce, lift, hlift, -⟩ := hr
  have hside := code_le_of_ofCode hx sideCode_le_one
  have henabled := code_le_of_ofCode henabled boolCode_le
  have hsource := code_le_of_ofCode hsource SideSource.code_le
  have hmode := code_le_of_ofCode hmode SkewMode.code_le
  have hband := code_le_of_ofCode hband DetectBand.code_le
  have hlift := code_le_of_ofCode hlift boolCode_le
  have hwindow := mem_and_eq_of_oneOf hwindow
  have hspeed := mem_and_eq_of_oneOf hspeed
  have hsmoothing := mem_and_eq_of_oneOf hsmoothing
  have hdebounce := mem_and_eq_of_oneOf hdebounce
  rw [field_pair (by omega)] at hwindow
  simp only [field_byte] at *
  simp only [badSideBytes, hwindow, hspeed, hsmoothing, hdebounce, not_true_eq_false, false_or, decide_eq_true_eq] at h
  omega

theorem length_sideBytes (x : Side) (g : SideSettings) : (sideBytes x g).length = 24 := by
  simp [sideBytes, length_code1, length_bytesOfNat]

theorem exec_setSide_taken {s : State} (hlisten : s.listening = true) (hstate : s.psc.state ∈ [PassState.idle, .ended])
    {p : List Byte} (hp : p.length = 24) : exec (.setSide p) s = .next ((s.setSide p).send 0x10) := by
  refine congrArg Host.Outcome.next ?_
  rw [s.settingsRefused_eq_none hstate]
  exact s.takeRequest_taken 0x10 24 p _ hlisten hp

theorem State.setSide_of_request {s : State} {p : List Byte} {x : Side} {g : SideSettings} (h : sideRequest p = some (x, g)) :
    s.setSide p = ⟨s.store { s.psc.stored with sides := s.psc.stored.sides.set x g.clamped },
      if g.clamped = g then .ok else .adjusted, sideBytes x g.clamped⟩ := by
  simp only [State.setSide, h, storedStatus_ne]

theorem State.setSide_of_none {s : State} {p : List Byte} (h : sideRequest p = none) : s.setSide p = refuse s .badValue := by
  simp only [State.setSide, h]

/-- Settles O18: the fields of the layout are read back, each clamp is a `max` and a `min`, and a payload with a field outside its list
carries no request. -/
theorem setSideStoresTheGroup : Obligations.SetSideStoresTheGroup := by
  intro s hlisten hstate
  refine ⟨fun x g hg => ?_, fun p hp hbad => ?_⟩
  · rw [exec_setSide_taken hlisten hstate (length_sideBytes x g), State.setSide_of_request (sideRequest_sideBytes x hg), g.clamped_eq hg]
    rfl
  · rw [exec_setSide_taken hlisten hstate hp, State.setSide_of_none (sideRequest_eq_none hp hbad)]
    rfl

/-! ### SET_PASS -/

theorem length_passBytes (g : PassSettings) : (passBytes g).length = 12 := by
  simp [passBytes, length_code1, length_bytesOfNat]

theorem passRequest_passBytes {g : PassSettings} (hg : g.sendable = true) : passRequest (passBytes g) = some g := by
  simp only [PassSettings.sendable, decide_eq_true_eq] at hg
  obtain ⟨hrate, hfactor, hstall, hlead, hguard, hhigh⟩ := hg
  have hcodes := And.intro (boolCode_le g.stopOnStall) (boolCode_le g.noticeAttention)
  have hrate' : g.rate < 16777216 := by simp at hrate; omega
  have hfactor' : g.factor < 256 := by simp at hfactor; omega
  simp only [passRequest, passBytes, List.append_assoc]
  simp (disch := first | omega | simp) only [field_skip, field_code1, field_code1_whole, field_front, length_code1, length_bytesOfNat,
    Nat.reduceSub, Nat.reducePow, Nat.mod_eq_of_lt]
  simp [boolOf_boolCode, oneOf_of_mem hrate, oneOf_of_mem hfactor]

theorem passRequest_eq_none {p : List Byte} (hp : p.length = 12) (h : badPassBytes p = true) : passRequest p = none := by
  rw [Option.eq_none_iff_forall_ne_some]
  intro r hr
  simp only [passRequest, Option.bind_eq_bind, Option.bind_eq_some_iff] at hr
  obtain ⟨rate, hrate, factor, hfactor, stop, hstop, notice, hnotice, -⟩ := hr
  have hrate := mem_and_eq_of_oneOf hrate
  have hfactor := mem_and_eq_of_oneOf hfactor
  have hstop := code_le_of_ofCode hstop boolCode_le
  have hnotice := code_le_of_ofCode hnotice boolCode_le
  rw [field_triple (by omega)] at hrate
  simp only [field_byte] at *
  simp only [badPassBytes, hrate, hfactor, not_true_eq_false, false_or, decide_eq_true_eq] at h
  omega

theorem PassSettings.clamped_eq {g : PassSettings} (hg : g.sendable = true) :
    g.clamped =
      { g with
        spliceLead := min 4095 g.spliceLead, spliceGuard := max 1 g.spliceGuard, highWater := max 1 (min 64 g.highWater) } := by
  simp only [PassSettings.sendable, decide_eq_true_eq] at hg
  obtain ⟨-, -, -, -, hguard, -⟩ := hg
  simp [PassSettings.clamped, clampNat_eq_max_min, Nat.min_eq_right (Nat.le_of_lt_succ hguard)]

theorem exec_setPass_taken {s : State} (hlisten : s.listening = true) (hstate : s.psc.state ∈ [PassState.idle, .ended])
    {p : List Byte} (hp : p.length = 12) : exec (.setPass p) s = .next ((s.setPass p).send 0x11) := by
  refine congrArg Host.Outcome.next ?_
  rw [s.settingsRefused_eq_none hstate]
  exact s.takeRequest_taken 0x11 12 p _ hlisten hp

theorem State.setPass_of_request {s : State} {p : List Byte} {g : PassSettings} (h : passRequest p = some g) :
    s.setPass p = ⟨s.store { s.psc.stored with pass := g.clamped }, if g.clamped = g then .ok else .adjusted, passBytes g.clamped⟩ := by
  simp only [State.setPass, h, storedStatus_ne]

theorem State.setPass_of_none {s : State} {p : List Byte} (h : passRequest p = none) : s.setPass p = refuse s .badValue := by
  simp only [State.setPass, h]

/-- Settles O19, as O18: the layout is read back, and a payload with a field outside its list carries no request. -/
theorem setPassStoresTheGroup : Obligations.SetPassStoresTheGroup := by
  intro s hlisten hstate
  refine ⟨fun g hg => ?_, fun p hp hbad => ?_⟩
  · rw [exec_setPass_taken hlisten hstate (length_passBytes g), State.setPass_of_request (passRequest_passBytes hg), g.clamped_eq hg]
    rfl
  · rw [exec_setPass_taken hlisten hstate hp, State.setPass_of_none (passRequest_eq_none hp hbad)]
    rfl

/-! ### SET_STREAM -/

theorem length_streamBytes (i : Fin 8) (d : Descriptor) : (streamBytes i d).length = 7 := by
  simp [streamBytes, length_code1, length_bytesOfNat]

theorem maskOf_trackMask {ts : TrackSet} (h : trackEmpty ts = false) : maskOf (trackMask ts) = some ts := by
  obtain ⟨t1, t2, t3, t4⟩ := ts
  decide +revert

theorem trackMask_lt (ts : TrackSet) : trackMask ts < 16 := by
  obtain ⟨t1, t2, t3, t4⟩ := ts
  decide +revert

theorem streamSourceOf_code {src : StreamSource} (h : src.suits = true) : streamSourceOf src.code src.channelCode = some src := by
  match src with
  | .side .A l r | .side .B l r => decide +revert
  | .raw ts =>
    have hts : trackEmpty ts = false := by simpa [StreamSource.suits] using h
    simp [StreamSource.code, StreamSource.channelCode, streamSourceOf, maskOf_trackMask hts]

theorem StreamSource.code_le (src : StreamSource) : src.code ≤ 2 := by
  match src with
  | .side .A _ _ | .side .B _ _ | .raw _ => simp [code]

theorem StreamSource.channelCode_lt (src : StreamSource) : src.channelCode < 16 := by
  match src with
  | .side _ l r =>
    have hl := boolCode_le l
    have hr := boolCode_le r
    simp only [channelCode]
    omega
  | .raw ts => exact trackMask_lt ts

theorem streamRequest_streamBytes (i : Fin 8) {d : Descriptor} (hd : d.ok = true) :
    streamRequest (streamBytes i d) = some (i, d) := by
  obtain ⟨hsuits, hframes⟩ := d.ok_iff.mp hd
  have hcodes := And.intro i.isLt <| And.intro (boolCode_le d.enabled) <| And.intro d.source.code_le <|
    And.intro d.source.channelCode_lt d.format.code_le
  have hframes' : d.framesPerBlock < 65536 := by simp at hframes; omega
  simp only [streamRequest, streamBytes, List.append_assoc]
  simp (disch := first | omega | simp) only [field_skip, field_code1, field_whole, length_code1, Nat.reduceSub, Nat.reducePow,
    Nat.mod_eq_of_lt]
  simp [streamOf_val, boolOf_boolCode, streamSourceOf_code hsuits, formatOf_code, oneOf_of_mem hframes]

/-- A source and channels that make a stream source are in R118's table. -/
theorem streamSourceOf_bounds {source channels : Nat} {src : StreamSource} (h : streamSourceOf source channels = some src) :
    source ≤ 2 ∧ 0 < channels ∧ channels < 16 ∧ (source < 2 → channels < 4) := by
  unfold streamSourceOf at h
  split at h
  · split at h
    next hc => omega
    next => cases h
  · split at h
    next hc => omega
    next => cases h
  · unfold maskOf at h
    split at h
    next hc => omega
    next => cases h
  · cases h

theorem streamRequest_eq_none {p : List Byte} (hp : p.length = 7) (h : badStreamBytes p = true) : streamRequest p = none := by
  rw [Option.eq_none_iff_forall_ne_some]
  intro r hr
  simp only [streamRequest, Option.bind_eq_bind, Option.bind_eq_some_iff] at hr
  obtain ⟨i, hi, enabled, henabled, source, hsource, format, hformat, frames, hframes, -⟩ := hr
  have hi := streamOf_le hi
  have henabled := code_le_of_ofCode henabled boolCode_le
  have hsource := streamSourceOf_bounds hsource
  have hformat := code_le_of_ofCode hformat SampleFormat.code_le
  have hframes := mem_and_eq_of_oneOf hframes
  rw [field_pair (by omega)] at hframes
  simp only [field_byte] at *
  simp only [badStreamBytes, hframes, not_true_eq_false, or_false, decide_eq_true_eq] at h
  omega

theorem exec_setStream_taken {s : State} (hlisten : s.listening = true) (hstate : s.psc.state ∈ [PassState.idle, .ended])
    {p : List Byte} (hp : p.length = 7) : exec (.setStream p) s = .next ((s.setStream p).send 0x12) := by
  refine congrArg Host.Outcome.next ?_
  rw [s.settingsRefused_eq_none hstate]
  exact s.takeRequest_taken 0x12 7 p _ hlisten hp

theorem State.setStream_of_request {s : State} {p : List Byte} {i : Fin 8} {d : Descriptor} (h : streamRequest p = some (i, d)) :
    s.setStream p = ⟨s.store { s.psc.stored with streams := s.psc.stored.streams.set i d }, .ok, streamBytes i d⟩ := by
  simp only [State.setStream, h]

theorem State.setStream_of_none {s : State} {p : List Byte} (h : streamRequest p = none) : s.setStream p = refuse s .badValue := by
  simp only [State.setStream, h]

/-- Settles O20, as O18: the layout is read back, and a payload with a field outside its list carries no request. -/
theorem setStreamStoresTheDescriptor : Obligations.SetStreamStoresTheDescriptor := by
  intro s hlisten hstate
  refine ⟨fun i d hd => ?_, fun p hp hbad => ?_⟩
  · rw [exec_setStream_taken hlisten hstate (length_streamBytes i d), State.setStream_of_request (streamRequest_streamBytes i hd)]
    rfl
  · rw [exec_setStream_taken hlisten hstate hp, State.setStream_of_none (streamRequest_eq_none hp hbad)]
    rfl

/-! ### SET_LINE -/

theorem length_lineBytes (i : Fin 6) (g : LineSetting) : (lineBytes i g).length = 6 := by
  simp [lineBytes, length_code1, length_bytesOfNat]

theorem lineRequest_lineBytes (i : Fin 6) {g : LineSetting} (hg : g.debounce ∈ [0, 32, 512, 8192]) :
    lineRequest (lineBytes i g) = some (i, g) := by
  have hcodes := And.intro i.isLt <| And.intro g.action.code_le <| And.intro g.edge.code_le (boolCode_le g.notice)
  have hdebounce : g.debounce < 65536 := by simp at hg; omega
  simp only [lineRequest, lineBytes, List.append_assoc]
  simp (disch := first | omega | simp) only [field_skip, field_code1, field_code1_whole, field_front, length_code1,
    length_bytesOfNat, Nat.reduceSub, Nat.reducePow, Nat.mod_eq_of_lt]
  simp [lineOf_val, actionOf_code, edgeOf_code, boolOf_boolCode, oneOf_of_mem hg]

theorem lineRequest_eq_none {p : List Byte} (hp : p.length = 6) (h : badLineBytes p = true) : lineRequest p = none := by
  rw [Option.eq_none_iff_forall_ne_some]
  intro r hr
  simp only [lineRequest, Option.bind_eq_bind, Option.bind_eq_some_iff] at hr
  obtain ⟨i, hi, action, haction, edge, hedge, debounce, hdebounce, notice, hnotice, -⟩ := hr
  have hi := lineOf_le hi
  have haction := code_le_of_ofCode haction LineAction.code_le
  have hedge := code_le_of_ofCode hedge Edge.code_le
  have hnotice := code_le_of_ofCode hnotice boolCode_le
  have hdebounce := mem_and_eq_of_oneOf hdebounce
  rw [field_pair (by omega)] at hdebounce
  simp only [field_byte] at *
  simp only [badLineBytes, hdebounce, not_true_eq_false, false_or, decide_eq_true_eq] at h
  omega

theorem exec_setLine_taken {s : State} (hlisten : s.listening = true) (hstate : s.psc.state ∈ [PassState.idle, .ended])
    {p : List Byte} (hp : p.length = 6) : exec (.setLine p) s = .next ((s.setLine p).send 0x13) := by
  refine congrArg Host.Outcome.next ?_
  rw [s.settingsRefused_eq_none hstate]
  exact s.takeRequest_taken 0x13 6 p _ hlisten hp

/-- A setting makes no second TACHO line where it is no TACHO setting, or no other line holds TACHO. -/
theorem secondTacho_eq_false {g : Settings} {i : Fin 6} {a : LineAction}
    (h : a ≠ .tacho ∨ ∀ j, j ≠ i → (g.lines.get j).action ≠ .tacho) : secondTacho g i a = false := by
  unfold secondTacho
  obtain ha | hother := h
  · simp [ha]
  · cases ht : g.tachoLine with
    | none => simp
    | some j =>
      have hji : j = i := Classical.byContradiction fun hne => hother j hne (Settings.action_of_tachoLine ht)
      simp [hji]

/-- With at most one TACHO line held, a TACHO setting for another line makes a second one. -/
theorem secondTacho_eq_true {g : Settings} (hone : g.oneTacho = true) {i j : Fin 6} (hj : j ≠ i)
    (htacho : (g.lines.get j).action = .tacho) : secondTacho g i .tacho = true := by
  cases ht : g.tachoLine with
  | none => exact absurd htacho (g.tachoLine_eq_none_iff.mp ht j)
  | some k =>
    have hkj : k = j := g.oneTacho_iff.mp hone k j (Settings.action_of_tachoLine ht) htacho
    simp [secondTacho, ht, hkj, hj]

theorem State.setLine_of_request {s : State} {p : List Byte} {i : Fin 6} {g : LineSetting} (h : lineRequest p = some (i, g))
    (hsecond : secondTacho s.psc.stored i g.action = false) :
    s.setLine p =
      ⟨{ s with
          psc := { s.psc with stored := { s.psc.stored with lines := s.psc.stored.lines.set i g } }
          sns := { s.sns with lines := s.sns.lines.set i { s.sns.lines.get i with count := 0 } } }, .ok, lineBytes i g⟩ := by
  simp [State.setLine, h, hsecond, State.store]

theorem State.setLine_of_second {s : State} {p : List Byte} {i : Fin 6} {g : LineSetting} (h : lineRequest p = some (i, g))
    (hsecond : secondTacho s.psc.stored i g.action = true) : s.setLine p = refuse s .badValue := by
  simp [State.setLine, h, hsecond]

theorem State.setLine_of_none {s : State} {p : List Byte} (h : lineRequest p = none) : s.setLine p = refuse s .badValue := by
  simp only [State.setLine, h]

/-- Settles O21, as O18: the layout is read back, and the one TACHO line the stored settings may hold decides the rest. -/
theorem setLineStoresTheSetting : Obligations.SetLineStoresTheSetting := by
  intro s hlisten hstate
  refine ⟨fun i g hg => ⟨fun hfree => ?_, fun hone htacho ⟨j, hj, hjt⟩ => ?_⟩, fun p hp hbad => ?_⟩
  · rw [exec_setLine_taken hlisten hstate (length_lineBytes i g),
      State.setLine_of_request (lineRequest_lineBytes i hg) (secondTacho_eq_false hfree)]
    rfl
  · rw [exec_setLine_taken hlisten hstate (length_lineBytes i g),
      State.setLine_of_second (lineRequest_lineBytes i hg) (htacho ▸ secondTacho_eq_true hone hj hjt)]
    rfl
  · rw [exec_setLine_taken hlisten hstate hp, State.setLine_of_none (lineRequest_eq_none hp hbad)]
    rfl

end Sys2Proof.Machine
end
section
/-! SUPPORT. POST_CUE: the cue its payload carries, and its place in the list (spec/10 R157, R158). -/

namespace Sys2Proof.Machine

/-! ### The cue of a payload -/

theorem signedByte_field {v : Int} (h : -128 ≤ v ∧ v ≤ 127) (rest : List Byte) :
    signedByte (field (bytesOfInt 1 v ++ rest) 0 1) = v := by
  have hfield : field (bytesOfInt 1 v ++ rest) 0 1 = (v % 256).toNat := by
    have hlt : (v % 256).toNat < 256 := by omega
    exact field_code1 hlt rest
  rw [hfield, signedByte, BitVec.toInt_eq_toNat_bmod, BitVec.toNat_ofNat]
  simp only [Int.bmod]
  omega

/-- The value bytes that a cue's kind uses. -/
theorem take_valueBytes (b : CueBody) :
    b.valueBytes.take b.valueLength =
      match b with
      | .source _ src none => code1 src.code ++ code1 0
      | .source _ src (some p) => code1 src.code ++ (code1 1 ++ bytesOfNat 2 p)
      | .lift _ on => code1 (boolCode on)
      | .gMax _ v => bytesOfNat 2 v
      | .skew _ v => bytesOfInt 1 v
      | .mark _ => [] := by
  match b with
  | .source _ _ none | .source _ _ (some _) | .lift _ _ | .gMax _ _ | .skew _ _ | .mark _ => rfl

theorem CueBody.target_sideCode (x : Side) (src : SideSource) (p : Option Nat) (on : Bool) (n : Nat) (v : Int) :
    (CueBody.source x src p).targetCode = sideCode x ∧ (CueBody.lift x on).targetCode = sideCode x ∧
      (CueBody.gMax x n).targetCode = sideCode x ∧ (CueBody.skew x v).targetCode = sideCode x := by
  cases x <;> exact ⟨rfl, rfl, rfl, rfl⟩

/-- The value bytes a cue uses, whatever follows them, give the cue back. -/
theorem cueBodyOf_valueBytes {b : CueBody} (hb : b.sendable = true) (rest : List Byte) :
    cueBodyOf b.kind b.targetCode (b.valueBytes.take b.valueLength ++ rest) = some b := by
  have hsrc : ∀ src : SideSource, src.code < 256 := fun src => Nat.lt_of_le_of_lt src.code_le (by decide)
  have hbool : ∀ on, boolCode on < 256 := fun on => Nat.lt_of_le_of_lt (boolCode_le on) (by decide)
  rw [take_valueBytes]
  have hno : boolOf 0 = some false := rfl
  have hyes : boolOf 1 = some true := rfl
  match b with
  | .source x src none =>
    rw [(CueBody.target_sideCode x src none false 0 0).1]
    simp [CueBody.kind, cueBodyOf, sideOf_sideCode, field_skip, field_code1, hsrc, sourceOf_code, cuePNom, hno]
  | .source x src (some p) =>
    have hp : p < 65536 := by simpa [CueBody.sendable] using hb
    rw [(CueBody.target_sideCode x src (some p) false 0 0).1]
    simp [CueBody.kind, cueBodyOf, sideOf_sideCode, field_skip, field_code1, field_front, hsrc, sourceOf_code, cuePNom, hyes,
      Nat.mod_eq_of_lt hp]
  | .lift x on =>
    rw [(CueBody.target_sideCode x .none none on 0 0).2.1]
    simp [CueBody.kind, cueBodyOf, sideOf_sideCode, field_code1, hbool, boolOf_boolCode]
  | .gMax x v =>
    have hv : v < 65536 := by simpa [CueBody.sendable] using hb
    rw [(CueBody.target_sideCode x .none none false v 0).2.2.1]
    simp [CueBody.kind, cueBodyOf, sideOf_sideCode, field_front, Nat.mod_eq_of_lt hv]
  | .skew x v =>
    have hv : -128 ≤ v ∧ v ≤ 127 := by simpa [CueBody.sendable] using hb
    rw [(CueBody.target_sideCode x .none none false 0 v).2.2.2]
    simp [CueBody.kind, cueBodyOf, sideOf_sideCode, signedByte_field hv]
  | .mark ts =>
    have hts : trackEmpty ts = false := by simpa [CueBody.sendable] using hb
    simp [CueBody.kind, CueBody.targetCode, cueBodyOf, maskOf_trackMask hts]

theorem CueBody.kind_lt (b : CueBody) : b.kind < 256 := by
  cases b <;> simp [kind]

theorem CueBody.targetCode_lt (b : CueBody) : b.targetCode < 256 := by
  match b with
  | .source x src p => rw [(target_sideCode x src p false 0 0).1]; cases x <;> decide
  | .lift x on => rw [(target_sideCode x .none none on 0 0).2.1]; cases x <;> decide
  | .gMax x v => rw [(target_sideCode x .none none false v 0).2.2.1]; cases x <;> decide
  | .skew x v => rw [(target_sideCode x .none none false 0 v).2.2.2]; cases x <;> decide
  | .mark ts => exact Nat.lt_trans (trackMask_lt ts) (by decide)

/-- A payload that agrees with a cue's layout as far as the cue's kind uses it carries that cue. -/
theorem cueRequest_cueBytes {q : Nat} {b : CueBody} {p : List Byte} (hq : q < 2 ^ 40) (hb : b.sendable = true)
    (hp : p.take (7 + b.valueLength) = (cueBytes ⟨q, b, false⟩).take (7 + b.valueLength)) : cueRequest p = some (q, b) := by
  have hhead : (bytesOfNat 5 q ++ code1 b.kind ++ code1 b.targetCode).length = 7 := by
    simp [length_bytesOfNat, length_code1]
  have hlayout : p = bytesOfNat 5 q ++ (code1 b.kind ++ (code1 b.targetCode ++
      (b.valueBytes.take b.valueLength ++ p.drop (7 + b.valueLength)))) := by
    conv =>
      lhs
      rw [← List.take_append_drop (7 + b.valueLength) p, hp, cueBytes, ← hhead, List.take_length_add_append]
    simp [List.append_assoc, length_bytesOfNat, length_code1]
  generalize p.drop (7 + b.valueLength) = rest at hlayout
  subst hlayout
  have hdrop : (bytesOfNat 5 q ++ (code1 b.kind ++ (code1 b.targetCode ++ (b.valueBytes.take b.valueLength ++ rest)))).drop 7 =
      b.valueBytes.take b.valueLength ++ rest := by
    rw [← List.append_assoc, ← List.append_assoc, List.drop_left' hhead]
  rw [cueRequest, hdrop]
  simp [field_skip, field_front, field_code1, length_bytesOfNat, length_code1, b.kind_lt, b.targetCode_lt, cueBodyOf_valueBytes hb]
  exact hq

theorem cueBodyOf_named {kind target : Nat} {value : List Byte} {b : CueBody} (h : cueBodyOf kind target value = some b) :
    badCueName kind target = false ∧ (kind = 1 → field value 0 1 ≤ 4 ∧ field value 1 1 ≤ 1) ∧ (kind = 2 → field value 0 1 ≤ 1) := by
  have hnamed : cueNamed kind target = true := by
    unfold cueBodyOf at h
    unfold cueNamed
    split at h
    case h_6 => cases h
    all_goals
      simp only [Option.bind_eq_bind, Option.bind_eq_some_iff, Option.map_eq_some_iff] at h
      obtain ⟨x, hx, -⟩ := h
      simp [hx]
  rw [cueNamed_eq_not_badCueName, Bool.not_eq_true'] at hnamed
  refine ⟨hnamed, fun hkind => ?_, fun hkind => ?_⟩
  · subst hkind
    simp only [cueBodyOf, Option.bind_eq_bind, Option.bind_eq_some_iff] at h
    obtain ⟨x, -, src, hsrc, p, hp, -⟩ := h
    obtain ⟨on, hon, -⟩ := Option.map_eq_some_iff.mp hp
    exact ⟨code_le_of_ofCode hsrc SideSource.code_le, code_le_of_ofCode hon boolCode_le⟩
  · subst hkind
    simp only [cueBodyOf, Option.bind_eq_bind, Option.bind_eq_some_iff] at h
    obtain ⟨x, -, on, hon, -⟩ := h
    exact code_le_of_ofCode hon boolCode_le

theorem cueRequest_eq_none {p : List Byte} (h : badCueBytes p = true) : cueRequest p = none := by
  have hvalue : ∀ i, field (p.drop 7) i 1 = byteAt p (7 + i) := fun i => by
    rw [← field_byte, field, List.drop_drop]
    rfl
  have hkind : field (p.drop 7) 0 1 = byteAt p 7 := hvalue 0
  have hnext : field (p.drop 7) 1 1 = byteAt p 8 := hvalue 1
  rw [cueRequest, Option.map_eq_none_iff, Option.eq_none_iff_forall_ne_some]
  intro b hb
  obtain ⟨hnamed, hsource, hlift⟩ := cueBodyOf_named hb
  rw [field_byte] at hsource hlift hnamed
  rw [field_byte] at hnamed
  rw [hkind, hnext] at hsource
  rw [hkind] at hlift
  simp only [badCueBytes, hnamed, Bool.false_or, decide_eq_true_eq] at h
  omega

/-! ### The rule -/

theorem exec_postCue_taken {s : State} (hlisten : s.listening = true) (hstate : s.psc.state ∈ [PassState.armed, .running, .draining])
    {p : List Byte} (hp : p.length = 11) : exec (.postCue p) s = .next ((s.postCue p).send 0x28) := by
  refine congrArg Host.Outcome.next ?_
  rw [s.cuesRefused_eq_none hstate]
  exact s.takeRequest_taken 0x28 11 p _ hlisten hp

section Rule

variable {s : State} {p : List Byte} {q : Nat} {b : CueBody}

theorem State.postCue_of_room (h : cueRequest p = some (q, b))
    (hroom : s.psc.cues.any (·.same ⟨q, b.clamped, s.cueLate q b.clamped⟩) = true ∨ s.psc.cues.length < Config.cueEntries) :
    s.postCue p =
      ⟨{ s with psc := { s.psc with cues := cuePut ⟨q, b.clamped, s.cueLate q b.clamped⟩ s.psc.cues } },
        if s.cueLate q b.clamped then .late else if b.clamped = b then .ok else .adjusted,
        cueBytes ⟨q, b.clamped, s.cueLate q b.clamped⟩⟩ := by
  simp only [State.postCue, h, cueStatus, storedStatus_ne]
  rw [if_pos (by simpa using hroom)]

theorem State.postCue_of_full (h : cueRequest p = some (q, b))
    (hnone : s.psc.cues.any (·.same ⟨q, b.clamped, s.cueLate q b.clamped⟩) = false) (hfull : Config.cueEntries ≤ s.psc.cues.length) :
    s.postCue p = refuse s .full := by
  have hfew : ¬s.psc.cues.length < Config.cueEntries := Nat.not_lt.mpr hfull
  simp [State.postCue, h, hnone, hfew]

theorem State.postCue_of_none (h : cueRequest p = none) : s.postCue p = refuse s .badValue := by
  simp only [State.postCue, h]

end Rule

theorem passedBy_eq_any (b : Option Nat) (q : Nat) : passedBy b q = b.any (q ≤ ·) := by
  cases b <;> rfl

theorem CueBody.clamped_of_ok {b : CueBody} (h : b.ok = true) : b.clamped = b := by
  match b with
  | .source _ _ none | .lift _ _ | .mark _ => rfl
  | .source _ _ (some p) =>
    have hp : p = 0 ∨ 768 ≤ p ∧ p ≤ 65535 := by simpa [ok] using h
    simp only [clamped, Option.map_some, clampPNom, source.injEq, Option.some.injEq, true_and]
    rw [clampNat_eq_max_min (by decide)]
    split <;> omega
  | .gMax _ v =>
    have hv : 4096 ≤ v ∧ v ≤ 16384 := by simpa [ok] using h
    simp only [clamped, gMax.injEq, true_and]
    rw [clampNat_eq_max_min (by decide)]
    omega
  | .skew _ v =>
    have hv : -128 ≤ v ∧ v ≤ 127 := by simpa [ok] using h
    simp only [clamped, skew.injEq, true_and]
    rw [clampInt_eq_max_min (by decide)]
    omega

/-- Settles O25: the payload carries the cue, and the list's rules say what becomes of it. -/
theorem postCueInsertsOrReplaces : Obligations.PostCueInsertsOrReplaces := by
  intro s hlisten hstate
  refine ⟨fun q b p hq hb hlen hp => ?_, fun p hlen hbad => ?_⟩
  · have hreq := cueRequest_cueBytes hq hb hp
    intro late c
    have hlate : s.cueLate q b.clamped = late := by
      cases b <;> simp [late, CueBody.clamped, State.cueLate, passedBy_eq_any]
    have hc : c = ⟨q, b.clamped, s.cueLate q b.clamped⟩ := by rw [hlate]
    clear_value c
    subst hc
    refine ⟨cueRequest_clamped_ok hreq, CueBody.clamped_of_ok, fun hroom => ?_, fun hnone hfull => ?_⟩
    · have hroom' := hroom.imp_left List.any_eq_true.mpr
      refine ⟨cuePut ⟨q, b.clamped, s.cueLate q b.clamped⟩ s.psc.cues, ?_, fun d => mem_cuePut, cuesOrdered_cuePut,
        length_cuePut_le hroom'⟩
      rw [exec_postCue_taken hlisten hstate hlen, State.postCue_of_room hreq hroom']
      rfl
    · have hnone' := List.any_eq_false.mpr fun d hd => Bool.eq_false_iff.mp (hnone d hd)
      rw [exec_postCue_taken hlisten hstate hlen, State.postCue_of_full hreq hnone' hfull]
      rfl
  · rw [exec_postCue_taken hlisten hstate hlen, State.postCue_of_none (cueRequest_eq_none hbad)]
    rfl

end Sys2Proof.Machine
end
section
/-! SUPPORT. The sense lines, the tacho, the pending splices and the stall monitor (spec/09), notices and attention (spec/11 R172, R173),
and the proofs of their obligations. -/

namespace Sys2Proof.Machine

@[simp] theorem PerLine.set_set {α : Type} (v : PerLine α) (i : Fin 6) (x y : α) : (v.set i x).set i y = v.set i y := by
  match i with
  | 0 | 1 | 2 | 3 | 4 | 5 => rfl

/-! ### Notices and attention -/

/-- Settles O54: a notice joins, or is counted up to 255; ATTN is a disjunction of the two queues' conditions. -/
theorem noticesAndAttention : Obligations.NoticesAndAttention := by
  refine ⟨fun q n => ⟨fun hroom => if_pos hroom, fun hfull hlost => ?_⟩, fun s => ?_⟩
  · have hcount : (if q.lost < 255 then q.lost + 1 else q.lost) = min 255 (q.lost + 1) := by split <;> omega
    rw [NoticeQueue.push, if_neg (Nat.not_lt.mpr hfull), hcount]
  · simp [State.attn]

/-! ### Debounce -/

section Debounce

variable (s : State) (i : Fin 6)

/-- A sample at the debounced level clears the count. -/
theorem State.sampleLine_same {high : Bool} (h : high = (s.sns.lines.get i).level) :
    s.sampleLine i high =
      { s with sns := { s.sns with lines := s.sns.lines.set i { s.sns.lines.get i with count := 0 } } } :=
  if_pos h

/-- A sample at the other level is counted while the count is below the debounce. -/
theorem State.sampleLine_count (h : (s.sns.lines.get i).count < (s.psc.pass.lines.get i).debounce) :
    s.sampleLine i (!(s.sns.lines.get i).level) =
      { s with sns := { s.sns with
          lines := s.sns.lines.set i { s.sns.lines.get i with count := (s.sns.lines.get i).count + 1 } } } := by
  simp [State.sampleLine, Nat.not_le.mpr h]

/-- A sample at the other level after as many as the debounce asks for is the accepted change. -/
theorem State.sampleLine_accept (h : (s.psc.pass.lines.get i).debounce ≤ (s.sns.lines.get i).count) :
    s.sampleLine i (!(s.sns.lines.get i).level) = s.acceptChange i := by
  simp [State.sampleLine, h]

/-- The line's count replaced. -/
def State.counted (m : Nat) : State :=
  { s with sns := { s.sns with lines := s.sns.lines.set i { s.sns.lines.get i with count := m } } }

theorem State.counted_self (h : (s.sns.lines.get i).count = 0) : s.counted i 0 = s := by
  rw [State.counted, ← h, PerLine.set_get]

theorem State.counted_counted (m n : Nat) : (s.counted i m).counted i n = s.counted i n := by
  simp [State.counted]

/-- The line's level moved, its count cleared. -/
def State.lineMoved : State :=
  { s with sns := { s.sns with lines := s.sns.lines.set i (s.sns.lines.get i).change } }

theorem State.acceptChange_eq :
    s.acceptChange i =
      if (s.psc.pass.lines.get i).edge.admits (!(s.sns.lines.get i).level) then ((s.lineMoved i).tripLine i).lineAction i
      else s.lineMoved i :=
  rfl

/-- An accepted change forgets the count it found. -/
theorem State.acceptChange_counted (m : Nat) : (s.counted i m).acceptChange i = s.acceptChange i := by
  have hmoved : (s.counted i m).lineMoved i = s.lineMoved i := by
    simp [State.counted, State.lineMoved, Line.change]
  rw [acceptChange_eq, acceptChange_eq, hmoved]
  simp [State.counted]

theorem State.sampleLines_append (xs ys : List Bool) : s.sampleLines i (xs ++ ys) = (s.sampleLines i xs).sampleLines i ys :=
  List.foldl_append

theorem State.sampleLines_singleton (high : Bool) : s.sampleLines i [high] = s.sampleLine i high := rfl

/-- A new level held for at most D samples is counted. -/
theorem State.sampleLines_replicate (hcount : (s.sns.lines.get i).count = 0) :
    ∀ n ≤ (s.psc.pass.lines.get i).debounce, s.sampleLines i (List.replicate n (!(s.sns.lines.get i).level)) = s.counted i n
  | 0, _ => (s.counted_self i hcount).symm
  | n + 1, h => by
    have hsample : (s.counted i n).sampleLine i (!(s.sns.lines.get i).level) = s.counted i (n + 1) := by
      have hstep := (s.counted i n).sampleLine_count i
      simp only [State.counted, PerLine.get_set_self, PerLine.set_set] at hstep ⊢
      exact hstep h
    rw [List.replicate_succ', sampleLines_append, sampleLines_replicate hcount n (Nat.le_of_succ_le h), sampleLines_singleton,
      hsample]

end Debounce

/-- Settles O53, by induction on the samples of the new level. -/
theorem debounceDelaysAChange : Obligations.DebounceDelaysAChange := by
  intro s i n l d counted hcount
  refine ⟨fun hn => ⟨s.sampleLines_replicate i hcount n hn, ?_⟩, ?_⟩
  · have hback : (s.counted i n).sampleLine i l.level = (s.counted i n).counted i 0 :=
      (s.counted i n).sampleLine_same i (by simp [State.counted, l])
    rw [s.sampleLines_append, s.sampleLines_replicate i hcount n hn, State.sampleLines_singleton, hback, s.counted_counted]
    rfl
  · have haccept : (s.counted i d).sampleLine i (!l.level) = (s.counted i d).acceptChange i := by
      have hstep := (s.counted i d).sampleLine_accept i
      simp only [State.counted, PerLine.get_set_self] at hstep ⊢
      exact hstep (Nat.le_refl d)
    rw [List.replicate_succ', s.sampleLines_append, s.sampleLines_replicate i hcount d (Nat.le_refl d), State.sampleLines_singleton,
      haccept, s.acceptChange_counted]

/-! ### Line changes -/

theorem Edge.admits_eq_false_iff {e : Edge} {high : Bool} :
    e.admits high = false ↔ (e = .rise ∧ high = false) ∨ (e = .fall ∧ high = true) := by
  cases e <;> simp [Edge.admits]

/-- An ARMED flag trips at the line's event, with its notice if the line's notice is on. -/
theorem State.tripLine_lineMoved (s : State) (i : Fin 6) :
    (s.lineMoved i).tripLine i =
      if (s.sns.lines.get i).sticky = .armed then
        { s with
          sns := { s.sns with lines := s.sns.lines.set i ⟨!(s.sns.lines.get i).level, 0, .tripped⟩ }
          notices :=
            if (s.psc.pass.lines.get i).notice then s.notices.push ⟨.line i (!(s.sns.lines.get i).level), s.crg.w⟩
            else s.notices }
      else s.lineMoved i := by
  unfold State.tripLine
  simp only [State.lineMoved, PerLine.get_set_self, PerLine.set_set, Line.change]
  split
  · split <;> rfl
  · rfl

/-- The action of a line event by the pass copy's action and the pass state. -/
theorem State.lineAction_eq (s : State) (i : Fin 6) :
    s.lineAction i = match (s.psc.pass.lines.get i).action, s.psc.state with
      | .start, .armed => s.startRequest
      | .stop, .armed => s.returnToIdle
      | .stop, .running => s.endCapture .endLine
      | .mark, .running => s.markEvent
      | .splice, .running => s.spliceEvent
      | .tacho, .running => s.tachoEvent i
      | _, _ => s := by
  unfold State.lineAction
  cases (s.psc.pass.lines.get i).action <;> cases s.psc.state <;> rfl

/-- Settles O50: the change moves the level; a change that the edge admits trips the flag and runs the action. -/
theorem lineChangeRunsTheAction : Obligations.LineChangeRunsTheAction := by
  intro s i
  refine ⟨fun hreset => congrArg Host.Outcome.next (if_pos hreset), fun hreset => ?_⟩
  have hexec : exec (.lineChangeAccepted i) s = .next (s.acceptChange i) :=
    congrArg Host.Outcome.next (if_neg (Bool.not_eq_true _ ▸ hreset))
  intro g l high moved quiet
  rw [hexec, s.acceptChange_eq]
  refine ⟨fun hquiet => ?_, fun hloud => ?_⟩
  · have hedge : g.edge.admits high = false := Edge.admits_eq_false_iff.mpr hquiet
    rw [if_neg (Bool.not_eq_true _ ▸ hedge)]
    rfl
  · intro t
    have hedge : g.edge.admits high = true := Bool.not_eq_false _ ▸ fun h => hloud (Edge.admits_eq_false_iff.mp h)
    have ht : (s.lineMoved i).tripLine i = t := s.tripLine_lineMoved i
    have hpsc : t.psc = s.psc := ht ▸ by rw [s.tripLine_lineMoved i]; split <;> rfl
    have haction := t.lineAction_eq i
    rw [hpsc] at haction
    rw [if_pos hedge, ht]
    exact congrArg Host.Outcome.next haction

/-! ### Tacho, splices and the stall monitor -/

theorem Settings.tachoLine_ne_none {g : Settings} (h : ∃ j, (g.lines.get j).action = .tacho) : g.tachoLine ≠ none := by
  obtain ⟨j, hj⟩ := h
  exact fun hnone => g.tachoLine_eq_none_iff.mp hnone j hj

/-- Settles O51: the cases of R140, R143 and R144 exclude each other. -/
theorem tachoAndSpliceEvents : Obligations.TachoAndSpliceEvents := by
  intro s i u timer
  refine ⟨fun hstalled => ?_, fun hrunning => ?_, fun hnow => ?_, fun hlead htacho => ⟨fun hfull => ?_, fun hrunning hroom => ?_⟩,
    fun untimed => rfl⟩
  · exact if_pos hstalled
  · have hfilter : ∀ ds : List Nat, ds.filter (fun d => !decide (d ≤ 1)) = ds.filter (1 < ·) := fun ds =>
      List.filter_congr fun d _ => by rw [← decide_not]; exact decide_eq_decide.mpr Nat.not_le
    have hmeasure : u.measure.countDown =
        { u with
          reference := true, tacho := 0, tLast := if u.reference then some (max 1 u.tacho) else u.tLast
          fresh := u.reference || u.fresh, splices := (u.splices.filter (1 < ·)).map (· - 1) } := by
      cases href : u.reference <;> simp [SenseUnit.measure, SenseUnit.countDown, href, hfilter]
    rw [State.tachoEvent, if_neg (Bool.not_eq_true _ ▸ hrunning), State.tachoPulse, hmeasure]
    rfl
  · obtain hzero | hnone := hnow
    · exact if_pos hzero
    · rw [State.spliceEvent, if_pos ((Settings.tachoLine_eq_none_iff _).mpr hnone), ite_self]
  · rw [State.spliceEvent, if_neg hlead, if_neg (Settings.tachoLine_ne_none htacho)]
    obtain hstalled | hfull := hfull
    · exact if_pos hstalled
    · rw [if_pos hfull, ite_self]
  · rw [State.spliceEvent, if_neg hlead, if_neg (Settings.tachoLine_ne_none htacho), if_neg (Bool.not_eq_true _ ▸ hrunning),
      if_neg (Nat.not_le.mpr hroom)]

theorem State.endCapture_psc (s : State) (c : EndCause) :
    (s.endCapture c).psc = { s.psc with state := .draining, cause := some c } := by
  simp [State.endCapture]

/-- Settles O52: the expiry's steps in turn; what the flushed splices and the notice leave, `endCapture` finds. -/
theorem stallExpiryDeclaresAStall : Obligations.StallExpiryDeclaresAStall := by
  intro s stall
  refine ⟨fun hidle => congrArg Host.Outcome.next (if_neg ?_), fun hrun htimer hstalled i hline => ?_⟩
  · simp only [State.stallArmed, Bool.and_eq_true, decide_eq_true_eq, Bool.not_eq_true', Option.isSome_iff_ne_none]
    rintro ⟨⟨hrun, htimer⟩, hstalled⟩
    obtain h | h | h := hidle
    · exact h hrun
    · exact htimer h
    · exact absurd (hstalled.symm.trans h) (by decide)
  · intro flushed told
    have harmed : s.stallArmed = true := by
      simp [State.stallArmed, hrun, hstalled, Option.isSome_iff_ne_none, htimer]
    have hdeclare : s.declareStall = if s.psc.pass.pass.stopOnStall then told.endCapture .stall else told := by
      have htold : told = flushed.notify (.stall true i) flushed.crg.w := by
        rw [show flushed.crg = s.crg by simp [flushed]]
        rfl
      simp only [State.declareStall, hline, htold]
      rfl
    have hexec : exec .stallExpiry s = .next s.declareStall := congrArg Host.Outcome.next (if_pos harmed)
    have htold : told.sns = stall s.sns ∧ told.psc = s.psc ∧ told.crg = s.crg ∧ told.cfe = s.cfe := by
      simp [told, flushed]
    rw [hexec, hdeclare]
    refine ⟨fun hstay => ⟨by rw [if_neg (Bool.not_eq_true _ ▸ hstay)], htold⟩, fun hstop => ⟨_, rfl, ?_⟩⟩
    obtain ⟨hsns, hpsc, hcrg, -⟩ := htold
    rw [if_pos hstop, State.endCapture_psc, State.endCapture_sns, hpsc, hsns]
    have hsets := told.endCapture_sets .stall
    rw [hcrg] at hsets
    exact ⟨rfl, rfl, hsets.2.2.1, hsets.2.2.2.1, rfl, rfl, rfl, rfl, rfl, rfl⟩

end Sys2Proof.Machine
end
section
/-! SUPPORT. Interpolation (spec/07 R105, R106) and the positions that a frame's channels read (spec/06 R95, R96), and the proofs of
their obligations. -/

namespace Sys2Proof.Machine

/-! ### Coefficients -/

/-- A row of coefficients: the taps in their range, with sum 1 (spec/07 R105). -/
def rowFits (row : Fin 16 → Int) : Prop :=
  (taps.map row).sum = 131072 ∧ ∀ k, -131072 ≤ row k ∧ row k ≤ 131072

theorem mem_taps (k : Fin 16) : k ∈ taps :=
  List.mem_finRange k

theorem rowFits_of_rowOk {row : Fin 16 → Int} (h : rowOk row = true) : rowFits row := by
  simp only [rowOk, Bool.and_eq_true, List.all_eq_true, decide_eq_true_eq] at h
  exact ⟨h.1.2, fun k => h.1.1 k (mem_taps k)⟩

theorem rowFits_impulseRow : rowFits impulseRow := by
  refine ⟨by decide, fun k => ?_⟩
  unfold impulseRow
  split <;> decide

theorem rowFits_pairRow : rowFits pairRow := by
  refine ⟨by decide, fun k => ?_⟩
  unfold pairRow
  split <;> decide

theorem tableOk_iff (h : CoefficientClass → Fin 64 → Fin 16 → Int) :
    tableOk h = true ↔ (∀ f, rowOk (h .A f) = true ∧ rowOk (h .B f) = true ∧ rowOk (h .C f) = true) ∧
      isImpulse (h .A 0) = true ∧ isImpulse (h .B 0) = false ∧ isImpulse (h .C 0) = false := by
  simp [tableOk, and_assoc]

theorem rowFits_coefficient (c : CoefficientClass) (phase : Fin 64) : rowFits (coefficient c phase) := by
  by_cases h : tableOk Config.coefficientTable = true
  · have hrow : coefficient c phase = Config.coefficientTable c phase := funext fun k => if_pos h
    obtain ⟨hA, hB, hC⟩ := ((tableOk_iff _).mp h).1 phase
    rw [hrow]
    cases c
    · exact rowFits_of_rowOk hA
    · exact rowFits_of_rowOk hB
    · exact rowFits_of_rowOk hC
  · cases c
    · exact (funext fun k => if_neg h : coefficient .A phase = impulseRow) ▸ rowFits_impulseRow
    · exact (funext fun k => if_neg h : coefficient .B phase = pairRow) ▸ rowFits_pairRow
    · exact (funext fun k => if_neg h : coefficient .C phase = pairRow) ▸ rowFits_pairRow

/-- Class A at phase 0 is the unit impulse, in whichever table. -/
theorem coefficient_zero (k : Fin 16) : coefficient .A 0 k = impulseRow k := by
  by_cases h : tableOk Config.coefficientTable = true
  · have himpulse := ((tableOk_iff _).mp h).2.1
    simp only [isImpulse, List.all_eq_true, decide_eq_true_eq] at himpulse
    rw [coefficient, if_pos h]
    exact himpulse k (mem_taps k)
  · exact if_neg h

/-! ### Interpolation -/

theorem saturate24_of_range {y : Int} (h : -8388608 ≤ y ∧ y ≤ 8388607) : saturate24 y = y := by
  rw [saturate24, clampInt_eq_max_min (by decide)]
  omega

theorem saturate24_range (x : Int) : -8388608 ≤ saturate24 x ∧ saturate24 x ≤ 8388607 := by
  rw [saturate24, clampInt_eq_max_min (by decide)]
  omega

/-- A sum of weights 2^17 times a value is rounded to the value. -/
theorem interpolate_of_sum {c : CoefficientClass} {phase : Fin 64} {inputs : Fin 16 → Int} {y : Int}
    (hsum : (taps.map fun k => inputs k * coefficient c phase k).sum = y * 131072) (h : -8388608 ≤ y ∧ y ≤ 8388607) :
    interpolate c phase inputs = y := by
  have hround : (y * 131072 + 65536) / 131072 = y := by omega
  rw [interpolate, hsum, hround, saturate24_of_range h]

/-- A constant comes out of a sum of products. -/
theorem sum_map_mul_const {α : Type} (y : Int) (g : α → Int) (l : List α) : (l.map fun a => y * g a).sum = y * (l.map g).sum := by
  induction l with
  | nil => simp
  | cons a l ih => rw [List.map_cons, List.sum_cons, List.map_cons, List.sum_cons, ih, Int.mul_add]

theorem sum_impulse (inputs : Fin 16 → Int) : (taps.map fun k => inputs k * impulseRow k).sum = inputs 7 * 131072 := by
  have hother : ∀ k : Fin 16, k ≠ 7 → impulseRow k = 0 := by decide
  have hseven : impulseRow 7 = 131072 := by decide
  have htaps : taps = [0, 1, 2, 3, 4, 5, 6, 7, 8, 9, 10, 11, 12, 13, 14, 15] := by decide
  simp [htaps, hother, hseven]

/-- Settles O46: the weights of every row add up to 2^17, and class A at phase 0 is the unit impulse. -/
theorem interpolationIsExactOnConstants : Obligations.InterpolationIsExactOnConstants := by
  intro c phase
  refine ⟨fun y hlo hhi => interpolate_of_sum ?_ ⟨hlo, hhi⟩, fun inputs hlo hhi => interpolate_of_sum ?_ ⟨hlo, hhi⟩,
    fun inputs => saturate24_range _, fun f hf => ?_, rowFits_coefficient c phase⟩
  · rw [sum_map_mul_const, (rowFits_coefficient c phase).1]
  · simp only [coefficient_zero, sum_impulse]
  · exact Nat.mod_eq_of_lt (Nat.div_lt_of_lt_mul hf)

/-! ### The positions of a frame's channels -/

/-- Settles O24: the skew is at most 8 samples either way, so R's integer part is at most 8 from L's. -/
theorem channelsReadWithinTheLookAhead : Obligations.ChannelsReadWithinTheLookAhead := by
  intro p base trim k skew i pR iR
  have hskew : skew = max (-128) (min 127 (base + trim)) := clampInt_eq_max_min (by decide) _
  have hpR : pR = p + skew * 2 ^ 20 := rfl
  have hi : i = ((p / 2 ^ 24 : Nat) : Int) := rfl
  have hiR : iR = pR / 2 ^ 24 := rfl
  have hk := k.isLt
  simp only [tapIndex]
  refine ⟨hskew, hpR, ?_⟩
  omega

end Sys2Proof.Machine
end
section
/-! SUPPORT. The speed bounds of raw steps (spec/03 R45 to R47) and the proof of their obligation. -/

namespace Sys2Proof.Machine

/-- A quotient rounded half up is at least a number whose product the dividend reaches, and at most one whose product it does not
pass. -/
theorem le_roundHalfUpNat {n d k : Nat} (hd : 0 < d) (h : k * d ≤ n) : k ≤ roundHalfUpNat n d := by
  have hdouble : k * (2 * d) = 2 * (k * d) := Nat.mul_left_comm ..
  rw [roundHalfUpNat, Nat.le_div_iff_mul_le (by omega), hdouble]
  omega

theorem roundHalfUpNat_le {n d k : Nat} (hd : 0 < d) (h : n ≤ k * d) : roundHalfUpNat n d ≤ k := by
  have hdouble : (k + 1) * (2 * d) = 2 * (k * d) + 2 * d := by
    rw [Nat.succ_mul, Nat.mul_left_comm]
  rw [roundHalfUpNat, ← Nat.lt_succ_iff, Nat.div_lt_iff_lt_mul (by omega), hdouble]
  omega

theorem le_ceilDiv_mul (n : Nat) {d : Nat} (hd : 0 < d) : n ≤ ceilDiv n d * d := by
  have hdiv := Nat.div_add_mod (n + d - 1) d
  have hmod := Nat.mod_lt (n + d - 1) hd
  rw [ceilDiv, Nat.mul_comm]
  omega

theorem mul_thousand (nominal p : Nat) : nominal * p * 1000 = nominal * (1000 * p) := by
  rw [Nat.mul_assoc, Nat.mul_comm p]

/-- A period sum within the speed window of what is expected gives a raw step within the bounds: both sides times the nominal step. -/
theorem roundHalfUpNat_mem_bounds {nominal p d sw : Nat} (hd : 0 < d) (h : distance p d * 1000 ≤ sw * d) :
    lowerBound nominal sw ≤ roundHalfUpNat (nominal * p) d ∧ roundHalfUpNat (nominal * p) d ≤ upperBound nominal sw := by
  have hdist : 1000 * p ≤ (1000 + sw) * d ∧ (1000 - sw) * d ≤ 1000 * p := by
    rw [Nat.add_mul, Nat.sub_mul]
    unfold distance at h
    generalize sw * d = m at h ⊢
    omega
  refine ⟨le_roundHalfUpNat hd (Nat.le_of_mul_le_mul_right ?_ (by decide : 0 < 1000)),
    roundHalfUpNat_le hd (Nat.le_of_mul_le_mul_right ?_ (by decide : 0 < 1000))⟩
  · calc lowerBound nominal sw * d * 1000 = lowerBound nominal sw * 1000 * d := Nat.mul_right_comm ..
      _ ≤ nominal * (1000 - sw) * d := Nat.mul_le_mul_right _ (Nat.div_mul_le_self _ _)
      _ = nominal * ((1000 - sw) * d) := Nat.mul_assoc ..
      _ ≤ nominal * (1000 * p) := Nat.mul_le_mul_left _ hdist.2
      _ = nominal * p * 1000 := (mul_thousand ..).symm
  · calc nominal * p * 1000 = nominal * (1000 * p) := mul_thousand ..
      _ ≤ nominal * ((1000 + sw) * d) := Nat.mul_le_mul_left _ hdist.1
      _ = nominal * (1000 + sw) * d := (Nat.mul_assoc ..).symm
      _ ≤ upperBound nominal sw * 1000 * d := Nat.mul_le_mul_right _ (le_ceilDiv_mul _ (by decide))
      _ = upperBound nominal sw * d * 1000 := Nat.mul_right_comm ..

theorem SideSettings.ok_tNom {g : SideSettings} (h : g.ok = true) : 0 < g.tNom := by
  simp only [SideSettings.ok, Bool.and_eq_true, decide_eq_true_eq] at h
  obtain ⟨⟨⟨⟨⟨⟨⟨⟨⟨⟨⟨-, htNom⟩, -⟩, -⟩, -⟩, -⟩, -⟩, -⟩, -⟩, -⟩, -⟩, -⟩ := h
  omega

/-- An IN window under a BIAS source has periods, and its period sum lies within the speed window of what P_eff expects. -/
theorem verdictBias_inside {c : Closing} {pEff n p used : Nat} (hlength : 0 < c.length) (hused : 0 < used) (hpEff : pEff ≠ 0)
    (h : verdictBias c pEff n p used = .inside) :
    0 < n * pEff ∧ distance p (n * pEff) * 1000 ≤ c.settings.speedWindow * (n * pEff) := by
  unfold verdictBias at h
  split at h
  · cases h
  · split at h
    · cases h
    · split at h
      · cases h
      next hsum =>
        split at h
        · cases h
        next hspeed =>
          have hwithin : distance p (n * pEff) * 1000 ≤ c.settings.speedWindow * (n * pEff) := by
            rw [← Nat.mul_assoc]
            exact Nat.not_lt.mp fun hlt => hspeed ⟨hpEff, hlt⟩
          refine ⟨Nat.pos_of_ne_zero fun hzero => ?_, hwithin⟩
          rw [hzero] at hwithin
          have hp : p = 0 := by simp [distance] at hwithin; omega
          have : 0 < used * c.length * 1024 := Nat.mul_pos (Nat.mul_pos hused hlength) (by decide)
          omega

theorem verdictDeck_inside {c : Closing} (h : verdictDeck c = .inside) :
    ∃ p, c.period = some p ∧ distance p c.settings.tNom * 1000 ≤ c.settings.speedWindow * c.settings.tNom := by
  unfold verdictDeck at h
  split at h
  · cases h
  · split at h
    · cases h
    · split at h
      · cases h
      next p hp =>
        split at h
        · cases h
        next hspeed => exact ⟨p, hp, Nat.not_lt.mp hspeed⟩

theorem rawStepBias_mem_bounds {c : Closing} {pEff n p used r : Nat} (hlength : 0 < c.length)
    (hused : 0 < used) (hverdict : verdictBias c pEff n p used = .inside)
    (h : (if pEff = 0 then none else some (rawStepBias c.nominal p n pEff)) = some r) :
    lowerBound c.nominal c.settings.speedWindow ≤ r ∧ r ≤ upperBound c.nominal c.settings.speedWindow := by
  split at h
  · cases h
  next hpEff =>
    obtain rfl := Option.some.inj h
    obtain ⟨hpos, hwithin⟩ := verdictBias_inside hlength hused hpEff hverdict
    exact roundHalfUpNat_mem_bounds hpos hwithin

/-- Settles O38: the verdict IN is the speed test, and the raw step is the tested quotient. -/
theorem rawStepsStayInBounds : Obligations.RawStepsStayInBounds := by
  intro t c r hok hlength hr
  have hin : t.verdict c = some .inside := by
    refine Classical.byContradiction fun hne => ?_
    simp [Tracker.rawStep, hne] at hr
  refine ⟨hin, ?_⟩
  rw [Tracker.rawStep, if_pos hin] at hr
  cases hsource : t.source with
  | none => simp [hsource] at hr
  | biasL | biasR | biasBoth =>
    simp only [hsource] at hr
    simp only [Tracker.verdict, hsource, Option.some.injEq] at hin
    exact rawStepBias_mem_bounds hlength (by decide) hin hr
  | deck =>
    simp only [hsource, Option.some.injEq] at hr
    simp only [Tracker.verdict, hsource, Option.some.injEq] at hin
    obtain ⟨p, hp, hwithin⟩ := verdictDeck_inside hin
    have hpsum : t.windowP c = p := by simp [Tracker.windowP, hsource, hp]
    rw [← hr, hpsum]
    exact roundHalfUpNat_mem_bounds (SideSettings.ok_tNom hok) hwithin

end Sys2Proof.Machine
end
section
/-! SUPPORT. Clip runs (spec/01 R9, R10) and the group event at the rings (spec/01 R3 to R6, R11, R12), and the proofs of their
obligations. -/

namespace Sys2Proof.Machine

/-! ### Clip runs -/

theorem fullScale_of {x : Int} (h : 8388592 ≤ x.natAbs) : fullScale x = true :=
  decide_eq_true h

/-- A run whose span is reported goes on: the detector follows its last sample, and each report grows the span through a sample of the
run. -/
theorem clipRun_of_span (k : Track) {u : Nat} : ∀ (v : Nat) (xs : List Int), (∀ x ∈ xs, fullScale x = true) → 0 < v →
    (clipRun k v xs ⟨4, u, v - 1, true⟩).1 = ⟨4, u, v + xs.length - 1, true⟩ ∧
      ∀ r ∈ (clipRun k v xs ⟨4, u, v - 1, true⟩).2, ∃ v', v ≤ v' ∧ v' < v + xs.length ∧
        r = .growth ⟨.clip k, some (u / 4, v' / 4 - u / 4 + 1), none, none, false⟩
  | v, [], _, _ => ⟨rfl, by simp [clipRun]⟩
  | v, x :: xs, hfull, hv => by
    obtain ⟨hx, hxs⟩ := List.forall_mem_cons.mp hfull
    obtain ⟨hdet, hreports⟩ := clipRun_of_span k (u := u) (v + 1) xs hxs (Nat.succ_pos v)
    have hsample : clipSample k v x ⟨4, u, v - 1, true⟩ = (⟨4, u, v, true⟩,
        if (v - 1) / 4 < v / 4 then [.growth ⟨.clip k, some (u / 4, v / 4 - u / 4 + 1), none, none, false⟩] else []) := by
      rw [clipSample, if_pos hx]
      rfl
    rw [Nat.add_sub_cancel] at hdet hreports
    simp only [clipRun, hsample, hdet, List.length_cons]
    refine ⟨by congr 1; omega, fun r hr => ?_⟩
    rcases List.mem_append.mp hr with hr | hr
    · split at hr
      · exact ⟨v, Nat.le_refl v, by omega, List.mem_singleton.mp hr⟩
      · cases hr
    · obtain ⟨v', hle, hlt, rfl⟩ := hreports r hr
      exact ⟨v', by omega, by omega, rfl⟩

/-- The first three full-scale samples are counted, the fourth reports the span. -/
theorem clipSample_run (k : Track) (u v : Nat) {x : Int} (hx : fullScale x = true) :
    clipSample k u x ⟨0, 0, 0, false⟩ = (⟨1, u, u, false⟩, []) ∧
      clipSample k v x ⟨1, u, u, false⟩ = (⟨2, u, v, false⟩, []) ∧
      (∀ w, clipSample k v x ⟨2, u, w, false⟩ = (⟨3, u, v, false⟩, [])) ∧
      ∀ w, clipSample k v x ⟨3, u, w, false⟩ = (⟨4, u, v, true⟩,
        [.span ⟨.clip, oneTrack k, u / 4, v / 4 - u / 4 + 1, none, none, none, false, some (.clip k)⟩]) := by
  simp [clipSample, hx, clipStart]

/-- Four samples and more: the span, and then what the run reports from there. -/
theorem clipRun_four (k : Track) (u : Nat) {a b c d : Int} (ha : fullScale a = true) (hb : fullScale b = true)
    (hc : fullScale c = true) (hd : fullScale d = true) (rest : List Int) :
    clipRun k u (a :: b :: c :: d :: rest) ⟨0, 0, 0, false⟩ =
      ((clipRun k (u + 4) rest ⟨4, u, u + 4 - 1, true⟩).1,
        .span ⟨.clip, oneTrack k, u / 4, (u + 3) / 4 - u / 4 + 1, none, none, none, false, some (.clip k)⟩ ::
          (clipRun k (u + 4) rest ⟨4, u, u + 4 - 1, true⟩).2) := by
  simp [clipRun, (clipSample_run k u u ha).1, (clipSample_run k u (u + 1) hb).2.1, (clipSample_run k u (u + 1 + 1) hc).2.2.1,
    (clipSample_run k u (u + 1 + 1 + 1) hd).2.2.2]

/-- Fewer than four samples are counted and not reported. -/
theorem clipRun_few (k : Track) (u : Nat) {xs : List Int} (hne : xs ≠ []) (hfull : ∀ x ∈ xs, fullScale x = true)
    (hfew : xs.length < 4) : clipRun k u xs ⟨0, 0, 0, false⟩ = (⟨xs.length, u, u + xs.length - 1, false⟩, []) := by
  match xs with
  | [] => exact absurd rfl hne
  | [a] => simp [clipRun, (clipSample_run k u u (hfull a (by simp))).1]
  | [a, b] =>
    simp [clipRun, (clipSample_run k u u (hfull a (by simp))).1, (clipSample_run k u (u + 1) (hfull b (by simp))).2.1]
  | [a, b, c] =>
    simp [clipRun, (clipSample_run k u u (hfull a (by simp))).1, (clipSample_run k u (u + 1) (hfull b (by simp))).2.1,
      (clipSample_run k u (u + 1 + 1) (hfull c (by simp))).2.2.1]
  | _ :: _ :: _ :: _ :: _ => simp at hfew; omega

/-- Four samples and more report one span, and then only its growth. -/
theorem clipRun_many (k : Track) (u : Nat) {xs : List Int} (hfull : ∀ x ∈ xs, fullScale x = true) (hmany : 4 ≤ xs.length) :
    (clipRun k u xs ⟨0, 0, 0, false⟩).1 = ⟨4, u, u + xs.length - 1, true⟩ ∧
      (clipRun k u xs ⟨0, 0, 0, false⟩).2.head? =
        some (.span ⟨.clip, oneTrack k, u / 4, (u + 3) / 4 - u / 4 + 1, none, none, none, false, some (.clip k)⟩) ∧
      ∀ r ∈ (clipRun k u xs ⟨0, 0, 0, false⟩).2.tail, ∃ v, u + 4 ≤ v ∧ v < u + xs.length ∧
        r = .growth ⟨.clip k, some (u / 4, v / 4 - u / 4 + 1), none, none, false⟩ := by
  match xs with
  | [] | [_] | [_, _] | [_, _, _] => simp at hmany
  | a :: b :: c :: d :: rest =>
    simp only [List.forall_mem_cons] at hfull
    obtain ⟨ha, hb, hc, hd, hrest⟩ := hfull
    obtain ⟨hrun, hreports⟩ := clipRun_of_span k (u := u) (u + 4) rest hrest (Nat.succ_pos _)
    have hlength : u + (a :: b :: c :: d :: rest).length = u + 4 + rest.length := by
      simp only [List.length_cons]
      omega
    rw [clipRun_four k u ha hb hc hd rest, hlength]
    exact ⟨hrun, rfl, hreports⟩

/-- A sample below full scale ends the run. -/
theorem clipSample_end (k : Track) (v : Nat) {x : Int} (hx : x.natAbs < 8388592) (d : ClipDetector) :
    clipSample k v x d = (⟨0, 0, 0, false⟩,
      if d.span then [.growth ⟨.clip k, some (d.first / 4, d.last / 4 - d.first / 4 + 1), none, none, true⟩] else []) :=
  if_neg (by simp [fullScale, hx])

/-- Settles O36: fewer than four samples are counted, four and more make the span, and a sample below full scale closes it. -/
theorem clipRunMakesOneSpan : Obligations.ClipRunMakesOneSpan := by
  intro k u xs hne hfull n out
  have hscale : ∀ x ∈ xs, fullScale x = true := fun x hx => fullScale_of (hfull x hx)
  have hfew : n < 4 → out = (⟨n, u, u + n - 1, false⟩, []) := clipRun_few k u hne hscale
  have hmany : 4 ≤ n → out.1 = ⟨4, u, u + n - 1, true⟩ := fun h => (clipRun_many k u hscale h).1
  have hdet : out.1 = ⟨min n 4, u, u + n - 1, decide (4 ≤ n)⟩ := by
    by_cases h : 4 ≤ n
    · rw [hmany h, Nat.min_eq_right h, decide_eq_true h]
    · rw [hfew (Nat.not_le.mp h), Nat.min_eq_left (Nat.le_of_not_le h), decide_eq_false h]
  refine ⟨hdet, fun h => by rw [hfew h], fun h => (clipRun_many k u hscale h).2, fun x hx => ?_⟩
  rw [clipSample_end k _ hx, hdet]
  simp

/-! ### The group event at the rings -/

theorem exec_groupEvent {s : State} (g : WideGroup) :
    exec (.groupEvent g) s = .next (if s.capturing then s.passTicks.group g else s) :=
  rfl

theorem State.capturing_iff' {s : State} :
    s.capturing = true ↔ s.cfe.converter = .capturing ∧ s.crg.w < 2 ^ 40 - 1 := by
  simp [State.capturing, Config.captureLimit]

/-- A ring read after the group event: the new sample at its slot, and every other slot as it was. -/
theorem ringRead_group {s : State} (h : s.ringsOk = true) (g : WideGroup) (k : Track) (j : Nat) :
    ringRead ((s.group g).crg.rings.get k) j =
      if j = s.crg.w % 65536 then decimate (g.get k) else ringRead (s.crg.rings.get k) j := by
  have hwf : ringWf (s.crg.rings.get k) = true := by
    simp only [State.ringsOk, PerTrack.toList, List.all_cons, List.all_nil, Bool.and_true, Bool.and_eq_true] at h
    cases k <;> simp [PerTrack.get, h]
  rw [(s.group_sets g).2.2, PerTrack.get_mapIdx, ttaSamples, PerTrack.get_map]
  split
  next hj => rw [hj]; exact ringRead_ringWrite_self hwf _ _
  next hj => exact ringRead_ringWrite_of_ne _ _ hj

theorem CaptureRing.read_of_neg {c : CaptureRing} {n : Int} (k : Track) (h : n < 0) : c.read k n = 0 :=
  if_pos h

/-- A retained sample is read from its slot. -/
theorem CaptureRing.read_of_retained {c : CaptureRing} {n : Int} (k : Track) (h0 : 0 ≤ n) (hlt : n < c.w)
    (hret : (c.w : Int) - 65536 ≤ n) : c.read k n = ringRead (c.rings.get k) (n.toNat % 65536) := by
  rw [CaptureRing.read, if_neg (Int.not_lt.mpr h0), if_neg (Int.not_le.mpr hlt)]
  exact if_neg (Int.not_lt.mpr hret)

theorem State.group_wideCount (s : State) (g : WideGroup) : (s.group g).cfe.wideCount = 4 * (s.crg.w + 1) := by
  simp [State.group, State.captureGroup, State.writeRings]

/-- A group event takes cues, and leaves the rest of the pass controller. -/
theorem State.group_psc (s : State) (g : WideGroup) : (s.group g).psc = { s.psc with cues := (s.group g).psc.cues } := by
  obtain ⟨-, -, -, -, -, -, -, -, -, -, hstate, hcause, hpending, harmed, hstored, hpass, hnominal, hclass, -⟩ := s.group_keeps g
  simp only
  rw [← hstate, ← hcause, ← hpending, ← harmed, ← hstored, ← hpass, ← hnominal, ← hclass]

/-- Settles O34: what `group` sets and keeps, and the two facts about reading a written ring. -/
theorem groupEventWritesTheRings : Obligations.GroupEventWritesTheRings := by
  intro s g
  refine ⟨fun hstay => ?_, fun hconv hw hrings => ?_⟩
  · have hidle : ¬ s.capturing = true := fun h => by
      obtain ⟨hconv, hw⟩ := State.capturing_iff'.mp h
      exact hstay.elim (· hconv) (Nat.not_le.mpr hw)
    rw [exec_groupEvent, if_neg hidle]
  · rw [exec_groupEvent, if_pos (State.capturing_iff'.mpr ⟨hconv, hw⟩)]
    obtain ⟨hw', hgathered, -⟩ := s.passTicks.group_sets g
    have hw1 : (s.passTicks.group g).crg.w = s.crg.w + 1 := hw'
    have hring := fun k j => ringRead_group (s := s.passTicks) hrings g k j
    obtain ⟨hpending, hclock, hconverter, -, hwatched, he, hside, hstream, hoq, hsns, -, -, -, -, -, -, -, -, hlink⟩ :=
      s.passTicks.group_keeps g
    refine ⟨_, rfl, hw1, he, s.passTicks.group_wideCount g, hgathered, fun k => ⟨hring k, ⟨by omega, ?_⟩, fun n hlo hhi => ?_⟩,
      hconverter.trans hconv, hwatched, hside, hstream, hoq, hlink, hpending, hclock, hsns, s.passTicks.group_psc g,
      s.passTicks.group_sublist g⟩
    · rw [CaptureRing.read_of_retained k (by omega) (by omega) (by omega), hring]
      exact if_pos rfl
    · by_cases hneg : n < 0
      · rw [CaptureRing.read_of_neg k hneg, CaptureRing.read_of_neg k hneg]
      · have hslot : n.toNat % 65536 ≠ s.crg.w % 65536 := by omega
        rw [CaptureRing.read_of_retained k (by omega) (by omega) (by omega),
          CaptureRing.read_of_retained k (by omega) hhi (by omega), hring]
        exact if_neg hslot

end Sys2Proof.Machine
end
section
/-! SUPPORT. The overrun check (spec/01 R14 to R16): what each jump reports, in which order, and where it leaves its consumer. -/

namespace Sys2Proof.Machine

/-! ### States that report alike -/

/-- Two states from which a report or a notice leads to one defect list and one notice queue: what the list and the queue are, and what
they are told with. -/
def State.tellsLike (t u : State) : Prop :=
  t.dfl = u.dfl ∧ t.notices = u.notices ∧ t.settlingLimit = u.settlingLimit ∧ t.crg.w = u.crg.w

namespace State.tellsLike

variable {s t u : State}

theorem refl (t : State) : t.tellsLike t :=
  ⟨rfl, rfl, rfl, rfl⟩

theorem trans {v : State} (h : t.tellsLike u) (h' : u.tellsLike v) : t.tellsLike v := by
  obtain ⟨hdfl, hnotices, hlimit, hw⟩ := h
  obtain ⟨hdfl', hnotices', hlimit', hw'⟩ := h'
  exact ⟨hdfl.trans hdfl', hnotices.trans hnotices', hlimit.trans hlimit', hw.trans hw'⟩

theorem notify (h : t.tellsLike u) (b : NoticeBody) (o : Nat) : (t.notify b o).tellsLike (u.notify b o) := by
  obtain ⟨hdfl, hnotices, hlimit, hw⟩ := h
  exact ⟨hdfl, by simp [hnotices], hlimit, hw⟩

theorem takeSpan (h : t.tellsLike u) (r : SpanReport) : (t.takeSpan r).tellsLike (u.takeSpan r) := by
  obtain ⟨hdfl, hnotices, hlimit, hw⟩ := h
  unfold State.takeSpan
  simp only [hdfl, hlimit, hw]
  split
  · exact ⟨rfl, by simp [hnotices], hlimit, hw⟩
  · exact ⟨rfl, hnotices, hlimit, hw⟩

theorem report (h : t.tellsLike u) (r : Report) : (t.report r).tellsLike (u.report r) := by
  cases r with
  | span r =>
    simp only [State.report]
    induction r.parts generalizing t u with
    | nil => exact h
    | cons p ps ih => exact ih (h.takeSpan p)
  | growth r =>
    obtain ⟨hdfl, hnotices, hlimit, hw⟩ := h
    exact ⟨by simp [State.report, hdfl, hlimit], hnotices, hlimit, hw⟩

end State.tellsLike

/-- A jump's report and notice, told to the state. -/
def State.tell (o : Nat) (s : State) (j : Report × NoticeBody) : State :=
  (s.report j.1).notify j.2 o

theorem State.tellsLike.tell {t u : State} (h : t.tellsLike u) (o : Nat) (j : Report × NoticeBody) :
    (t.tell o j).tellsLike (u.tell o j) :=
  (h.report j.1).notify j.2 o

/-! ### A fold at one place -/

/-- Steps at the elements of a list leave what is looked at elsewhere. -/
theorem foldl_off {σ β γ : Type} {f : σ → β → σ} {look : σ → β → γ} (hother : ∀ s i j, j ≠ i → look (f s i) j = look s j) {l : List β}
    {j : β} (hj : j ∉ l) (s : σ) : look (l.foldl f s) j = look s j := by
  induction l generalizing s with
  | nil => rfl
  | cons i l ih =>
    have hne : j ≠ i := List.ne_of_not_mem_cons hj
    have hnot : j ∉ l := List.not_mem_of_not_mem_cons hj
    rw [List.foldl_cons, ih hnot, hother s i j hne]

/-- A step at each element of a list without repetition, where a step leaves what the others look at: an element's own step finds what
stood there before the fold, and the rest of the fold leaves what it makes. -/
theorem foldl_at {σ β γ : Type} {f : σ → β → σ} {look : σ → β → γ} (hother : ∀ s i j, j ≠ i → look (f s i) j = look s j) {l : List β}
    (hl : l.Nodup) {j : β} (hj : j ∈ l) (s : σ) : ∃ t, look t j = look s j ∧ look (l.foldl f s) j = look (f t j) j := by
  induction l generalizing s with
  | nil => cases hj
  | cons i l ih =>
    obtain ⟨hnot, hl⟩ := List.nodup_cons.mp hl
    rcases List.mem_cons.mp hj with rfl | hj
    · exact ⟨s, rfl, foldl_off hother hnot _⟩
    · have hne : j ≠ i := fun h => hnot (h ▸ hj)
      obtain ⟨t, ht, hfold⟩ := ih hl hj (f s i)
      exact ⟨t, ht.trans (hother s i j hne), hfold⟩

/-- Steps that each tell one thing or nothing, by what an element looks at: the fold tells what the elements have to tell, in order. -/
theorem foldl_tells {β γ : Type} {f : State → β → State} {look : State → β → γ} (hother : ∀ s i j, j ≠ i → look (f s i) j = look s j)
    {behind : γ → Bool} {jump : β → γ → Report × NoticeBody} {o : Nat} {s : State}
    (hjump : ∀ t v i, t.tellsLike v → look t i = look s i → behind (look s i) = true → (f t i).tellsLike (v.tell o (jump i (look s i))))
    (hstay : ∀ t i, behind (look t i) = false → f t i = t) {l : List β} (hl : l.Nodup) {t v : State} (h : t.tellsLike v)
    (hlook : ∀ i ∈ l, look t i = look s i) :
    (l.foldl f t).tellsLike (((l.filter fun i => behind (look s i)).map fun i => jump i (look s i)).foldl (.tell o) v) := by
  induction l generalizing t v with
  | nil => exact h
  | cons i l ih =>
    obtain ⟨hnot, hl⟩ := List.nodup_cons.mp hl
    obtain ⟨hi, hrest⟩ := List.forall_mem_cons.mp hlook
    have hrest' : ∀ j ∈ l, look (f t i) j = look s j := fun j hj =>
      (hother t i j fun h => hnot (h ▸ hj)).trans (hrest j hj)
    cases hb : behind (look s i) with
    | true =>
      rw [List.filter_cons_of_pos (p := fun i => behind (look s i)) hb]
      exact ih hl (hjump t v i h hi hb) hrest'
    | false =>
      rw [List.filter_cons_of_neg (p := fun i => behind (look s i)) (Bool.not_eq_true _ ▸ hb), List.foldl_cons, hstay t i (hi ▸ hb)]
      exact ih hl h hrest

/-! ### Sides -/

/-- What the overrun check of a side reads and writes. -/
structure SideView where
  resampler : Resampler
  consumer : Bool
  lost : Bool
  w : Nat

def State.sideView (s : State) (x : Side) : SideView :=
  ⟨s.rsp.get x, s.crg.sideConsumer.get x, s.crg.sideLost.get x, s.crg.w⟩

/-- The write of index w overruns the side. -/
def SideView.behind (v : SideView) : Bool :=
  v.consumer && overrun v.w v.resampler.oldest

/-- What the side's jump tells. -/
def SideView.loss (x : Side) (v : SideView) : Report × NoticeBody :=
  (lostSpan v.w v.resampler.oldest (sideTracks x) none (.lossSide x), .lossSide x)

/-- Where the side's jump leaves it. -/
def SideView.jumped (v : SideView) : SideView :=
  { v with resampler := { v.resampler with position := (jumpTarget v.w + 15) * Config.stepUnit, loss := true }, lost := true }

theorem State.checkSide_stay {s : State} {x : Side} (h : (s.sideView x).behind = false) : s.checkSide x = s :=
  if_neg (Bool.not_eq_true _ ▸ h)

theorem State.checkSide_jump {s : State} {x : Side} (h : (s.sideView x).behind = true) : s.checkSide x = s.jumpSide x :=
  if_pos h

theorem State.sideView_jumpSide (s : State) (x : Side) : (s.jumpSide x).sideView x = (s.sideView x).jumped := by
  simp [State.jumpSide, State.sideView, SideView.jumped]

theorem State.sideView_checkSide (s : State) (x : Side) :
    (s.checkSide x).sideView x = if (s.sideView x).behind then (s.sideView x).jumped else s.sideView x := by
  split
  next h => rw [checkSide_jump h, sideView_jumpSide]
  next h => rw [checkSide_stay (Bool.not_eq_true _ ▸ h)]

theorem State.sideView_checkSide_of_ne (s : State) (x y : Side) (h : y ≠ x) : (s.checkSide x).sideView y = s.sideView y := by
  cases hb : (s.sideView x).behind with
  | true =>
    rw [checkSide_jump hb]
    simp [State.jumpSide, State.sideView, h]
  | false => rw [checkSide_stay hb]

theorem State.tellsLike.jumpSide {t v : State} (h : t.tellsLike v) (x : Side) :
    (t.jumpSide x).tellsLike (v.tell t.crg.w ((t.sideView x).loss x)) :=
  State.tellsLike.tell (t := { t with
    rsp := t.rsp.set x { t.rsp.get x with position := (jumpTarget t.crg.w + 15) * Config.stepUnit, loss := true }
    crg := { t.crg with sideLost := t.crg.sideLost.set x true } }) h t.crg.w ((t.sideView x).loss x)

/-! ### Raw streams -/

/-- What the overrun check of a raw stream reads and writes. -/
structure RawView where
  assembler : Stream
  tracks : Option TrackSet
  consumer : Bool
  lost : Bool
  w : Nat

def State.rawView (s : State) (i : Fin 8) : RawView :=
  ⟨s.sas.get i, s.rawTracks i, s.crg.streamConsumer.get i, s.crg.streamLost.get i, s.crg.w⟩

/-- The write of index w overruns the stream. -/
def RawView.behind (v : RawView) : Bool :=
  v.tracks.isSome && v.consumer && overrun v.w v.assembler.r

/-- What the stream's jump tells. -/
def RawView.loss (i : Fin 8) (v : RawView) : Report × NoticeBody :=
  (lostSpan v.w v.assembler.r (v.tracks.getD (.all false)) (some i) (.lossStream i), .lossStream i)

/-- Where the stream's jump leaves it. -/
def RawView.jumped (v : RawView) : RawView :=
  { v with assembler := { v.assembler with r := jumpTarget v.w, loss := true }, lost := true }

theorem State.checkStream_eq (s : State) (i : Fin 8) :
    s.checkStream i = if (s.rawView i).behind then s.jumpStream i ((s.rawTracks i).getD (.all false)) else s := by
  unfold State.checkStream
  cases h : s.rawTracks i <;> simp [RawView.behind, State.rawView, h]

theorem State.checkStream_stay {s : State} {i : Fin 8} (h : (s.rawView i).behind = false) : s.checkStream i = s := by
  rw [checkStream_eq, if_neg (Bool.not_eq_true _ ▸ h)]

theorem State.checkStream_jump {s : State} {i : Fin 8} (h : (s.rawView i).behind = true) :
    s.checkStream i = s.jumpStream i ((s.rawTracks i).getD (.all false)) := by
  rw [checkStream_eq, if_pos h]

theorem State.rawView_jumpStream (s : State) (i : Fin 8) (ts : TrackSet) :
    (s.jumpStream i ts).rawView i = (s.rawView i).jumped := by
  simp [State.jumpStream, State.rawView, RawView.jumped, State.rawTracks]

theorem State.rawView_checkStream (s : State) (i : Fin 8) :
    (s.checkStream i).rawView i = if (s.rawView i).behind then (s.rawView i).jumped else s.rawView i := by
  split
  next h => rw [checkStream_jump h, rawView_jumpStream]
  next h => rw [checkStream_stay (Bool.not_eq_true _ ▸ h)]

theorem State.rawView_checkStream_of_ne (s : State) (i j : Fin 8) (h : j ≠ i) : (s.checkStream i).rawView j = s.rawView j := by
  cases hb : (s.rawView i).behind with
  | true =>
    rw [checkStream_jump hb]
    simp [State.jumpStream, State.rawView, State.rawTracks, h]
  | false => rw [checkStream_stay hb]

theorem State.tellsLike.jumpStream {t v : State} (h : t.tellsLike v) (i : Fin 8) :
    (t.jumpStream i ((t.rawTracks i).getD (.all false))).tellsLike (v.tell t.crg.w ((t.rawView i).loss i)) :=
  State.tellsLike.tell (t := { t with
    sas := t.sas.set i { t.sas.get i with r := jumpTarget t.crg.w, loss := true }
    crg := { t.crg with streamLost := t.crg.streamLost.set i true } }) h t.crg.w ((t.rawView i).loss i)

/-! ### The check at every consumer -/

section Check

variable (s : State)

theorem Side.nodup_list : Side.list.Nodup := by
  decide

theorem nodup_streamList : streamList.Nodup := by
  decide

theorem State.checkSides_rawView (i : Fin 8) : (Side.list.foldl .checkSide s).rawView i = s.rawView i :=
  foldl_keeps (keep := fun t => t.rawView i) (fun t x => by simp [State.rawView, State.rawTracks]) _ _

theorem State.checkStreams_sideView (x : Side) : (streamList.foldl .checkStream s).sideView x = s.sideView x :=
  foldl_keeps (keep := fun t => t.sideView x) (fun t i => by simp [State.sideView]) _ _

theorem State.overrunCheck_sideView (x : Side) :
    s.overrunCheck.sideView x = if (s.sideView x).behind then (s.sideView x).jumped else s.sideView x := by
  have hx : x ∈ Side.list := by cases x <;> decide
  obtain ⟨t, ht, hfold⟩ := foldl_at (look := State.sideView) sideView_checkSide_of_ne Side.nodup_list hx s
  rw [State.overrunCheck, checkStreams_sideView, hfold, sideView_checkSide, ht]

theorem State.overrunCheck_rawView (i : Fin 8) :
    s.overrunCheck.rawView i = if (s.rawView i).behind then (s.rawView i).jumped else s.rawView i := by
  obtain ⟨t, ht, hfold⟩ := foldl_at (look := State.rawView) rawView_checkStream_of_ne nodup_streamList (mem_streamList i)
    (Side.list.foldl .checkSide s)
  rw [State.overrunCheck, hfold, rawView_checkStream, ht, checkSides_rawView]

/-- What the overrun check tells: side A, side B, then the streams. -/
def State.losses : List (Report × NoticeBody) :=
  ((Side.list.filter fun x => (s.sideView x).behind).map fun x => (s.sideView x).loss x) ++
    (streamList.filter fun i => (s.rawView i).behind).map fun i => (s.rawView i).loss i

theorem State.overrunCheck_tells : s.overrunCheck.tellsLike (s.losses.foldl (.tell s.crg.w) s) := by
  have hsides : (Side.list.foldl .checkSide s).tellsLike
      (((Side.list.filter fun x => (s.sideView x).behind).map fun x => (s.sideView x).loss x).foldl (.tell s.crg.w) s) :=
    foldl_tells (look := State.sideView) sideView_checkSide_of_ne
      (fun t v x h hlook hb => by
        have hw : t.crg.w = s.crg.w := congrArg SideView.w hlook
        rw [checkSide_jump (hlook ▸ hb), ← hw, ← hlook]
        exact h.jumpSide x)
      (fun t x h => checkSide_stay h) Side.nodup_list (.refl s) fun _ _ => rfl
  rw [State.losses, List.foldl_append]
  exact foldl_tells (look := State.rawView) rawView_checkStream_of_ne
    (fun t v i h hlook hb => by
      have hw : t.crg.w = s.crg.w := congrArg RawView.w hlook
      rw [checkStream_jump (hlook ▸ hb), ← hw, ← hlook]
      exact h.jumpStream i)
    (fun t i h => checkStream_stay h) nodup_streamList hsides fun i _ => s.checkSides_rawView i

end Check

/-! ### The rest of the group event -/

/-- Notices join the tail of the queue, and its count does not fall. -/
theorem keptByReports_queueGrows (q : NoticeQueue) :
    KeptByReports fun _ q' => q.queue <+: q'.queue ∧ q.lost ≤ q'.lost where
  push d q' n h := by
    obtain ⟨hqueue, hlost⟩ := h
    unfold NoticeQueue.push
    split
    · exact ⟨hqueue.trans (List.prefix_append _ _), hlost⟩
    · refine ⟨hqueue, ?_⟩
      simp only
      split
      · exact Nat.le_succ_of_le hlost
      · exact hlost
  newSpan _ _ _ h := h
  grow _ _ _ h := h
  settle _ _ _ h := h

section CaptureGroup

variable (s : State) (g : WideGroup)

/-- What the capture of a group leaves at the consumers. -/
theorem State.captureGroup_consumers :
    (s.captureGroup g).sas = s.sas ∧ (s.captureGroup g).crg.sideLost = s.crg.sideLost ∧
      (s.captureGroup g).crg.streamLost = s.crg.streamLost := by
  simp [State.captureGroup, State.writeRings]

theorem State.captureGroup_resampler (x : Side) :
    (s.captureGroup g).rsp.get x = { s.rsp.get x with wait := ((s.captureGroup g).rsp.get x).wait } := by
  simp [State.captureGroup, State.writeRings, State.testGates]

end CaptureGroup

/-! ### The obligation -/

theorem jumpTarget_of_full {w : Nat} (h : 65536 ≤ w) : jumpTarget w = w - 61440 := by
  change w - 65536 + 4096 = w - 61440
  omega

theorem overrun_eq (w : Nat) (old : Int) : overrun w old = decide (65536 ≤ w ∧ old ≤ (w : Int) - 65536) := by
  simp [overrun, Config.ringSlots]

theorem lostSpan_of_full {w : Nat} (h : 65536 ≤ w) (old : Int) (ts : TrackSet) (i : Option (Fin 8)) (q : Reporter) :
    lostSpan w old ts i q =
      .span ⟨.lost, ts, (max 0 old).toNat, w - 61440 - (max 0 old).toNat, none, none, i, false, some q⟩ := by
  have hold : (max 0 old).toNat = old.toNat := by omega
  rw [lostSpan, jumpTarget_of_full h, hold]

theorem RawView.behind_eq (v : RawView) :
    v.behind = (v.tracks.isSome && v.consumer && decide (65536 ≤ v.w ∧ v.assembler.r + 65536 ≤ v.w)) := by
  rw [behind, overrun_eq]
  exact congrArg _ (decide_eq_decide.mpr (and_congr_right fun _ => by omega))

theorem SideView.full_of_behind {v : SideView} (h : v.behind = true) : 65536 ≤ v.w := by
  simp only [behind, overrun_eq, Bool.and_eq_true, decide_eq_true_eq] at h
  exact h.2.1

theorem RawView.full_of_behind {v : RawView} (h : v.behind = true) : 65536 ≤ v.w := by
  simp only [behind, overrun_eq, Bool.and_eq_true, decide_eq_true_eq] at h
  exact h.2.1

theorem foldl_tell_like {t u : State} (h : t.tellsLike u) (o : Nat) (js : List (Report × NoticeBody)) :
    (js.foldl (.tell o) t).tellsLike (js.foldl (.tell o) u) := by
  induction js generalizing t u with
  | nil => exact h
  | cons j js ih => exact ih (h.tell o j)

theorem append_congr {α : Type} {a a' b b' : List α} (ha : a = a') (hb : b = b') : a ++ b = a' ++ b' := by
  rw [ha, hb]

/-- Settles O35: what the check tells and where it leaves each consumer; the rest of the event tests the gates and queues notices. -/
theorem overrunJumpsTheConsumer : Obligations.OverrunJumpsTheConsumer := by
  intro s g hcapturing
  refine ⟨s.passTicks.overrunCheck.captureGroup g, congrArg Host.Outcome.next (if_pos hcapturing), ?_⟩
  intro w sideBehind rawBehind span jumps told checked
  have hside : ∀ x, sideBehind x = (s.sideView x).behind := fun x => by
    rw [SideView.behind, overrun_eq]
    rfl
  have hraw : ∀ i, rawBehind i = (s.rawView i).behind := fun i => (s.rawView i).behind_eq.symm
  have hjumps : jumps = s.losses := by
    have hsides := List.filter_congr (l := Side.list) fun x _ => hside x
    have hraws := List.filter_congr (l := streamList) fun i _ => hraw i
    rw [State.losses, ← hsides, ← hraws]
    refine append_congr (List.map_congr_left fun x hx => ?_) (List.map_congr_left fun i hi => ?_)
    · have hfull : 65536 ≤ s.crg.w := SideView.full_of_behind ((hside x).symm.trans (List.mem_filter.mp hx).2)
      exact congrArg (·, NoticeBody.lossSide x) (lostSpan_of_full hfull _ _ _ _).symm
    · have hfull : 65536 ≤ s.crg.w := RawView.full_of_behind ((hraw i).symm.trans (List.mem_filter.mp hi).2)
      exact congrArg (·, NoticeBody.lossStream i) (lostSpan_of_full hfull _ _ _ _).symm
  have htold : checked.tellsLike told := by
    have hticks : s.passTicks.tellsLike s := ⟨rfl, rfl, rfl, rfl⟩
    simp only [told, hjumps]
    exact (State.overrunCheck_tells s.passTicks).trans (foldl_tell_like hticks s.crg.w s.losses)
  obtain ⟨hdfl, hnotices, -, -⟩ := htold
  have hgrows : told.notices.queue <+: (checked.captureGroup g).notices.queue ∧
      told.notices.lost ≤ (checked.captureGroup g).notices.lost := by
    rw [← hnotices]
    exact (keptByReports_queueGrows checked.notices).captureGroup g ⟨List.prefix_refl _, Nat.le_refl _⟩
  obtain ⟨hsas, hsideLost, hstreamLost⟩ := checked.captureGroup_consumers g
  refine ⟨hdfl, hnotices, rfl, hgrows.1, hgrows.2, fun x => ?_, fun i => ?_⟩
  · have hview : checked.sideView x = if (s.sideView x).behind then (s.sideView x).jumped else s.sideView x :=
      s.passTicks.overrunCheck_sideView x
    rw [← hside] at hview
    rw [hsideLost]
    refine ⟨fun hb => ?_, fun hb => ?_⟩
    · have hfull : 65536 ≤ w := SideView.full_of_behind ((hside x).symm.trans hb)
      have hposition : (jumpTarget w + 15) * Config.stepUnit = (w - 61425) * 2 ^ 24 := by
        have hsum : w - 61440 + 15 = w - 61425 := by omega
        rw [jumpTarget_of_full hfull, hsum]
      rw [if_pos hb] at hview
      have hjumped : checked.rsp.get x =
          { s.rsp.get x with position := (jumpTarget w + 15) * Config.stepUnit, loss := true } :=
        congrArg SideView.resampler hview
      have hres := checked.captureGroup_resampler g x
      rw [hjumped, hposition] at hres
      exact ⟨hres, congrArg SideView.lost hview⟩
    · rw [if_neg (Bool.not_eq_true _ ▸ hb)] at hview
      have hstays : checked.rsp.get x = s.rsp.get x := congrArg SideView.resampler hview
      have hres := checked.captureGroup_resampler g x
      rw [hstays] at hres
      exact ⟨hres, congrArg SideView.lost hview⟩
  · have hview : checked.rawView i = if (s.rawView i).behind then (s.rawView i).jumped else s.rawView i :=
      s.passTicks.overrunCheck_rawView i
    rw [← hraw] at hview
    rw [hsas, hstreamLost]
    refine ⟨fun hb => ?_, fun hb => ?_⟩
    · have hfull : 65536 ≤ w := RawView.full_of_behind ((hraw i).symm.trans hb)
      rw [if_pos hb] at hview
      have hjumped : checked.sas.get i = { s.sas.get i with r := jumpTarget w, loss := true } :=
        congrArg RawView.assembler hview
      rw [jumpTarget_of_full hfull] at hjumped
      exact ⟨hjumped, congrArg RawView.lost hview⟩
    · rw [if_neg (Bool.not_eq_true _ ▸ hb)] at hview
      exact ⟨congrArg RawView.assembler hview, congrArg RawView.lost hview⟩

end Sys2Proof.Machine
end
section
/-! SUPPORT. READ_SKEW and the pass requests ARM, START, STOP and ABORT (spec/06 R97, spec/10 R149 to R156), the ends of a pass, and the
proofs of their obligations. -/

namespace Sys2Proof.Machine

/-! ### READ_SKEW -/

theorem State.skewReport_eq (s : State) (x : Side) :
    s.skewReport x = [BitVec.ofNat 8 (sideCode x), BitVec.ofInt 8 (s.rsp.get x).baseSkew, BitVec.ofNat 8 (s.skewModeNow x).code,
      BitVec.ofInt 8 (s.trimNow x), BitVec.ofNat 8 (s.rtr.get x).skewList.length] ++ (s.rtr.get x).skewList.flatMap (bytesOfNat 2) := by
  simp [State.skewReport, code1_eq_singleton, bytesOfInt_one]

theorem exec_readSkew_taken {s : State} (hlisten : s.listening = true) (side : Byte) :
    exec (.readSkew [side]) s = .next ((s.readSkew [side]).send 0x21) :=
  congrArg Host.Outcome.next (s.takeRequest_taken _ _ _ _ hlisten rfl)

theorem State.readSkew_of_side {s : State} {p : List Byte} {x : Side} (h : sideOf (field p 0 1) = some x) :
    s.readSkew p = ⟨s, .ok, s.skewReport x⟩ := by
  simp only [State.readSkew, h]

theorem State.readSkew_of_none {s : State} {p : List Byte} (h : sideOf (field p 0 1) = none) : s.readSkew p = refuse s .badValue := by
  simp only [State.readSkew, h]

/-- Settles O23: the payload names a side or none, and the report is the layout's bytes one by one. -/
theorem readSkewReportsTheSide : Obligations.ReadSkewReportsTheSide := by
  intro s hlisten
  refine ⟨fun x => ?_, fun side hside => ?_⟩
  · have hx : sideOf (field [BitVec.ofNat 8 (sideCode x)] 0 1) = some x := by cases x <;> rfl
    rw [exec_readSkew_taken hlisten, State.readSkew_of_side hx, s.skewReport_eq x]
    rfl
  · have hnone : sideOf (field [side] 0 1) = none := by
      have hfield : field [side] 0 1 = side.toNat := field_byte [side] 0
      rw [hfield, ← Option.not_isSome_iff_eq_none, isSome_sideOf]
      simpa using hside
    rw [exec_readSkew_taken hlisten, State.readSkew_of_none hnone]
    rfl

/-! ### ARM -/

theorem State.armRefused_eq_none {s : State} (h : s.psc.state = .idle ∨ (s.psc.state = .ended ∧ s.oq.blocks = [])) :
    s.armRefused = none := by
  obtain h | ⟨h, hblocks⟩ := h
  · simp [armRefused, h]
  · simp [armRefused, h, hblocks]

theorem exec_arm_taken {s : State} (hlisten : s.listening = true)
    (h : s.psc.state = .idle ∨ (s.psc.state = .ended ∧ s.oq.blocks = [])) : exec (.arm []) s = .next (s.arm.send 0x30) := by
  refine congrArg Host.Outcome.next ?_
  rw [s.armRefused_eq_none h]
  exact s.takeRequest_taken 0x30 0 [] _ hlisten rfl

theorem State.arm_of_bad {s : State} {check which : Nat} (h : s.psc.stored.badSetup = some (check, which)) :
    s.arm = ⟨s, .badSetup, code1 check ++ code1 which⟩ := by
  simp only [State.arm, h]

theorem State.arm_of_good {s : State} (h : s.psc.stored.badSetup = none) : s.arm = ⟨s.armPass, .ok, s.armPass.passReply⟩ := by
  simp only [State.arm, h]

namespace Settings

variable {g : Settings}

theorem badSetup_of_none_enabled (h : ∀ i, (g.streams.get i).enabled = false) : g.badSetup = some (1, 0) :=
  if_pos (List.all_eq_true.mpr fun i _ => by simp [h])

theorem badSetup_of_enabled {i : Fin 8} (h : (g.streams.get i).enabled = true) :
    g.badSetup = match streamList.find? fun i => (g.streams.get i).orphan g with
      | some i => some (2, i.val)
      | none =>
        if g.tachoLine.isSome then none
        else (Side.list.find? g.deckSide).map fun x => (3, sideCode x) :=
  if_neg fun hall => by simpa [h] using List.all_eq_true.mp hall i (mem_streamList i)

theorem enabled_of_orphan {d : Descriptor} (h : d.orphan g = true) : d.enabled = true := by
  simp only [Descriptor.orphan, Bool.and_eq_true] at h
  exact h.1

/-- The first stream with a property is the one found. -/
theorem find_streamList {p : Fin 8 → Bool} {i : Fin 8} (hi : p i = true) (hbefore : ∀ j, j < i → p j = false) :
    streamList.find? p = some i := by
  rw [List.find?_eq_some_iff_getElem]
  have hget : ∀ j : Fin 8, streamList[j.val]'j.isLt = j := by decide
  refine ⟨hi, i.val, i.isLt, hget i, fun j hj => ?_⟩
  have hj8 : j < 8 := Nat.lt_trans hj i.isLt
  have hfree : p (streamList[j]'hj8) = false := hget ⟨j, hj8⟩ ▸ hbefore ⟨j, hj8⟩ hj
  exact (Bool.not_eq_true' _).mpr hfree

theorem badSetup_of_orphan {i : Fin 8} (hi : (g.streams.get i).orphan g = true)
    (hbefore : ∀ j, j < i → (g.streams.get j).orphan g = false) : g.badSetup = some (2, i.val) := by
  rw [badSetup_of_enabled (enabled_of_orphan hi), find_streamList hi hbefore]

/-- Past the second check, the third decides. -/
theorem badSetup_of_no_orphan {i : Fin 8} (hi : (g.streams.get i).enabled = true) (horphan : ∀ i, (g.streams.get i).orphan g = false) :
    g.badSetup = if g.tachoLine.isSome then none else (Side.list.find? g.deckSide).map fun x => (3, sideCode x) := by
  have hnone : streamList.find? (fun i => (g.streams.get i).orphan g) = none :=
    List.find?_eq_none.mpr fun i _ => by simp [horphan]
  rw [badSetup_of_enabled hi, hnone]

end Settings

/-- Settles O27: the three checks in turn. -/
theorem armNamesTheFailedCheck : Obligations.ArmNamesTheFailedCheck := by
  intro s hlisten hstate g
  have hbad : ∀ {check which}, g.badSetup = some (check, which) →
      exec (.arm []) s = .next (s.replied 0x30 .badSetup (code1 check ++ code1 which)) := fun h => by
    rw [exec_arm_taken hlisten hstate, State.arm_of_bad h]
    rfl
  refine ⟨fun hnone => hbad (Settings.badSetup_of_none_enabled hnone),
    fun i hi hbefore => (hbad (Settings.badSetup_of_orphan hi hbefore)).trans ?_, fun ⟨i, hi⟩ horphan htacho => ?_⟩
  · simp [code1_eq_singleton]
  · have hsetup := Settings.badSetup_of_no_orphan hi horphan
    rw [(Settings.tachoLine_eq_none_iff g).mpr htacho] at hsetup
    refine ⟨fun hA => hbad (check := 3) (which := 0) (hsetup.trans ?_), fun hA hB => hbad (check := 3) (which := 1) (hsetup.trans ?_)⟩
    · simp [Side.list, hA, sideCode]
    · simp [Side.list, hA, hB, sideCode]

end Sys2Proof.Machine
end
section
/-! SUPPORT. What ARM, STOP, ABORT, the limit and the completion of draining leave (spec/10 R150, R152 to R154), and the proofs of their
obligations. -/

namespace Sys2Proof.Machine

/-! ### An accepted ARM -/

theorem Settings.badSetup_eq_none {g : Settings} {i : Fin 8} (hi : (g.streams.get i).enabled = true)
    (hsides : ∀ i x l r, (g.streams.get i).enabled = true → (g.streams.get i).source = .side x l r → (g.sides.get x).enabled = true)
    (hdeck : ∀ x, (g.sides.get x).enabled = true → (g.sides.get x).source = .deck → ∃ j, (g.lines.get j).action = .tacho) :
    g.badSetup = none := by
  have horphan : ∀ i, (g.streams.get i).orphan g = false := fun i => by
    cases hon : (g.streams.get i).enabled with
    | false => simp [Descriptor.orphan, hon]
    | true =>
      cases hsource : (g.streams.get i).source with
      | raw ts => simp [Descriptor.orphan, hsource]
      | side x l r => simp [Descriptor.orphan, hsource, hsides i x l r hon hsource]
  rw [Settings.badSetup_of_no_orphan hi horphan]
  split
  · rfl
  next hline =>
    have hnone : Side.list.find? g.deckSide = none := by
      rw [List.find?_eq_none]
      intro x _ hx
      simp only [Settings.deckSide, Bool.and_eq_true, decide_eq_true_eq] at hx
      exact hline (Option.isSome_iff_ne_none.mpr (Settings.tachoLine_ne_none (hdeck x hx.1 hx.2)))
    rw [hnone]
    rfl

theorem State.passReply_eq (s : State) :
    s.passReply = [BitVec.ofNat 8 s.psc.state.code, BitVec.ofNat 8 (boolCode s.psc.startPending)] := by
  simp [State.passReply, code1_eq_singleton]

/-- Settles O28: what `armPass` makes, block by block. -/
theorem armSetsUpThePass : Obligations.ArmSetsUpThePass := by
  intro s hlisten hstate g nominal ⟨i, hi⟩ hsides hdeck
  have hgood := Settings.badSetup_eq_none hi hsides hdeck
  refine ⟨s.arm.send 0x30, exec_arm_taken hlisten hstate, ?_⟩
  rw [State.arm_of_good hgood, State.passReply_eq]
  refine ⟨rfl, rfl, rfl, rfl, rfl, rfl, rfl, rfl, rfl, rfl, rfl, fun x => ?_, fun k => ?_⟩
  · cases x <;> exact ⟨rfl, rfl, rfl, rfl, rfl, rfl, rfl, rfl, rfl⟩
  · cases k <;> exact ⟨rfl, rfl, rfl, rfl, rfl⟩

/-! ### The end of capture at the level monitors and the resamplers -/

section EndOfCapture

variable (s : State)

theorem Track.nodup_list : Track.list.Nodup := by
  decide

theorem mem_trackList (k : Track) : k ∈ Track.list := by
  cases k <;> decide

theorem State.putMonitor_lvm_of_ne (k : Track) (out : Monitor × List Report) {j : Track} (h : j ≠ k) :
    (s.putMonitor k out).lvm.get j = s.lvm.get j := by
  simp [State.putMonitor, h]

/-- The end of capture at a monitored track is `finish`; another track stays. -/
theorem State.levelFinish_get (e : Nat) (k : Track) :
    (s.levelFinish e).lvm.get k =
      if (s.lvm.get k).monitored then ((s.lvm.get k).finish k e).1 else s.lvm.get k := by
  have hother : ∀ (u : State) (i j : Track), j ≠ i →
      (u.putMonitor i ((u.lvm.get i).finish i e)).lvm.get j = u.lvm.get j := fun u i j h => u.putMonitor_lvm_of_ne i _ h
  unfold State.levelFinish
  split
  next hon =>
    obtain ⟨t, ht, hfold⟩ := foldl_at (look := fun (u : State) k => u.lvm.get k) hother (Track.nodup_list.filter _)
      ((List.mem_filter (p := fun t => (s.lvm.get t).monitored)).mpr ⟨mem_trackList k, hon⟩) s
    rw [hfold, ← ht]
    simp [State.putMonitor]
  next hoff => exact foldl_off (look := fun (u : State) k => u.lvm.get k) hother (fun hmem => hoff (List.mem_filter.mp hmem).2) s

theorem Monitor.finish_settled (m : Monitor) (k : Track) (e : Nat) : (m.finish k e).1.settled = e + 16 :=
  rfl

/-- A resampler at the end of capture: DRAINING, or FINISHED where its position is there already. -/
theorem State.drainSide_get (x y : Side) (e : Nat) :
    (s.drainSide x e).rsp.get y =
      if y = x ∧ (s.rsp.get x).state = .active then
        { s.rsp.get x with state := if (s.rsp.get x).index < e then .draining else .finished }
      else s.rsp.get y := by
  unfold State.drainSide
  by_cases hactive : (s.rsp.get x).state = .active <;> by_cases hyx : y = x <;> by_cases hindex : (s.rsp.get x).index < e <;>
    simp [hactive, hyx, hindex, State.finishResampler]

/-- A resampler after the end of capture, but for its wait cause. -/
theorem State.endCapture_resampler (c : EndCause) (x : Side) :
    (s.endCapture c).rsp.get x =
      { s.rsp.get x with
        state := if (s.rsp.get x).state = .active then if (s.rsp.get x).index < s.crg.w then .draining else .finished
          else (s.rsp.get x).state
        wait := ((s.endCapture c).rsp.get x).wait } := by
  by_cases hactive : (s.rsp.get x).state = .active <;> cases x <;>
    simp [State.endCapture, State.drainSide_get, State.trackFinish, hactive]

theorem State.endCapture_settled (c : EndCause) (k : Track) :
    ((s.endCapture c).lvm.get k).settled = if (s.lvm.get k).monitored then s.crg.w + 16 else (s.lvm.get k).settled := by
  have hlvm : (s.endCapture c).lvm.get k =
      if (s.lvm.get k).monitored then ((s.lvm.get k).finish k s.crg.w).1 else s.lvm.get k := by
    simp [State.endCapture, State.trackFinish, State.levelFinish_get]
  rw [hlvm]
  split <;> rfl

end EndOfCapture

/-! ### STOP -/

theorem State.stopRefused_eq_none {s : State} (h : s.psc.state ∈ [PassState.armed, .running, .draining]) : s.stopRefused = none := by
  simp only [List.mem_cons, List.not_mem_nil, or_false] at h
  obtain h | h | h := h <;> simp [stopRefused, h]

theorem exec_stop_taken {s : State} (hlisten : s.listening = true) (h : s.psc.state ∈ [PassState.armed, .running, .draining]) :
    exec (.stop []) s = .next (s.stop.send 0x32) := by
  refine congrArg Host.Outcome.next ?_
  rw [s.stopRefused_eq_none h]
  exact s.takeRequest_taken 0x32 0 [] _ hlisten rfl

theorem exec_abort_taken {s : State} (hlisten : s.listening = true) (h : s.psc.state ∈ [PassState.armed, .running, .draining]) :
    exec (.abort []) s = .next (s.abort.send 0x33) := by
  refine congrArg Host.Outcome.next ?_
  rw [s.stopRefused_eq_none h]
  exact s.takeRequest_taken 0x33 0 [] _ hlisten rfl

section Stop

variable {s : State}

theorem State.stop_of_armed (h : s.psc.state = .armed) : s.stop = ⟨s.returnToIdle, .ok, s.returnToIdle.passReply⟩ := by
  simp [State.stop, State.stopRequest, h]

theorem State.stop_of_running (h : s.psc.state = .running) :
    s.stop = ⟨s.endCapture .stopped, .ok, (s.endCapture .stopped).passReply⟩ := by
  simp [State.stop, State.stopRequest, h]

theorem State.stop_of_draining (h : s.psc.state = .draining) : s.stop = ⟨s, .already, s.passReply⟩ := by
  simp [State.stop, State.stopRequest, h]

theorem State.abort_of_armed (h : s.psc.state = .armed) : s.abort = ⟨s.returnToIdle, .ok, s.returnToIdle.passReply⟩ := by
  simp [State.abort, State.abortRequest, h]

theorem State.abort_of_running (h : s.psc.state = .running) : s.abort = ⟨s.abortRunning, .ok, s.abortRunning.passReply⟩ := by
  simp [State.abort, State.abortRequest, h]

theorem State.abort_of_draining (h : s.psc.state = .draining) : s.abort = ⟨s.abortDraining, .ok, s.abortDraining.passReply⟩ := by
  simp [State.abort, State.abortRequest, h]

end Stop

/-- Settles O30: STOP by pass state, and what the end of capture sets and keeps. -/
theorem stopEndsCapture : Obligations.StopEndsCapture := by
  intro s hlisten
  refine ⟨fun harmed kind hkind => ?_, fun hdraining => ?_, fun hrunning => ?_⟩
  · have hopen : s.psc.state ∈ [PassState.armed, .running, .draining] := by simp [harmed]
    obtain rfl | rfl := hkind
    · rw [if_pos rfl, exec_stop_taken hlisten hopen, State.stop_of_armed harmed, State.passReply_eq]
      rfl
    · rw [if_neg (by decide), exec_abort_taken hlisten hopen, State.abort_of_armed harmed, State.passReply_eq]
      rfl
  · rw [exec_stop_taken hlisten (by simp [hdraining]), State.stop_of_draining hdraining, State.passReply_eq, hdraining]
    rfl
  · have hpsc := s.endCapture_psc .stopped
    have hexec : exec (.stop []) s = .next { s.endCapture .stopped with
        link := answered 0x32 .ok [3, BitVec.ofNat 8 (boolCode s.psc.startPending)] } := by
      rw [exec_stop_taken hlisten (by simp [hrunning]), State.stop_of_running hrunning, State.passReply_eq, hpsc]
      rfl
    obtain ⟨-, -, he, hconverter, hsettle, hgathered, -⟩ := s.endCapture_sets .stopped
    obtain ⟨hpending, hclock, -, hwatched, hrings, hw, -⟩ := s.endCapture_keeps .stopped
    have hsns := s.endCapture_sns .stopped
    have hsettled := s.endCapture_settled .stopped
    have hres := s.endCapture_resampler .stopped
    generalize s.endCapture .stopped = u at *
    refine ⟨_, hexec, rfl, hpsc, he, hw, hrings, hconverter, hgathered, hsettle, hwatched, hpending, hclock, hsns, hsettled,
      fun x => ?_⟩
    have hres := hres x
    refine ⟨(congrArg Resampler.position hres).trans rfl, (congrArg Resampler.baseSkew hres).trans rfl, fun hactive => ?_⟩
    have hstate := congrArg Resampler.state hres
    rwa [hactive, if_pos rfl] at hstate

/-! ### ABORT -/

/-- A growth report queues no notice. -/
theorem State.reports_notices_of_growth (s : State) {rs : List Report} (h : ∀ r ∈ rs, ∃ g, r = .growth g) :
    (s.reports rs).notices = s.notices := by
  induction rs generalizing s with
  | nil => rfl
  | cons r rs ih =>
    obtain ⟨hr, hrs⟩ := List.forall_mem_cons.mp h
    obtain ⟨g, rfl⟩ := hr
    exact ih (s.report (.growth g)) hrs

section Quiet

variable (s : State)

theorem clipEnd_growth (k : Track) (d : ClipDetector) : ∀ r ∈ (clipEnd k d).2, ∃ g, r = .growth g := by
  intro r hr
  unfold clipEnd at hr
  split at hr
  · exact ⟨_, List.mem_singleton.mp hr⟩
  · cases hr

theorem Monitor.abort_growth (m : Monitor) (k : Track) : ∀ r ∈ (m.abort k).2, ∃ g, r = .growth g := by
  intro r hr
  unfold Monitor.abort Monitor.spanReports at hr
  split at hr
  · exact ⟨_, List.mem_singleton.mp hr⟩
  · cases hr

theorem State.clipFinish_notices : s.clipFinish.notices = s.notices :=
  foldl_keeps (keep := State.notices) (fun t k => by
    unfold State.putClip
    exact State.reports_notices_of_growth _ (clipEnd_growth k _)) _ _

theorem State.closeSideLoss_notices (x : Side) : (s.closeSideLoss x).notices = s.notices := by
  unfold State.closeSideLoss
  split <;> rfl

theorem State.closeStreamLoss_notices (i : Fin 8) : (s.closeStreamLoss i).notices = s.notices := by
  unfold State.closeStreamLoss
  split <;> rfl

theorem State.closeLosses_notices : s.closeLosses.notices = s.notices :=
  (foldl_keeps (keep := State.notices) closeStreamLoss_notices _ _).trans
    (foldl_keeps (keep := State.notices) closeSideLoss_notices _ _)

/-- The end of capture closes runs and spans, and queues no notice. -/
theorem State.stopCapture_notices : s.stopCapture.notices = s.notices := by
  rw [State.stopCapture, closeLosses_notices, clipFinish_notices]
  rfl

theorem State.levelAbort_notices : s.levelAbort.notices = s.notices :=
  foldl_keeps (keep := State.notices) (fun t k => by
    unfold State.putMonitor
    exact State.reports_notices_of_growth _ (Monitor.abort_growth _ k)) _ _

end Quiet

section Abort

variable (s : State)

theorem State.enterEnded_psc (c : Option EndCause) :
    (s.enterEnded c).psc = { s.psc with state := .ended, cause := c, startPending := false, cues := [] } := by
  simp [State.enterEnded]

theorem State.enterEnded_notices (c : Option EndCause) :
    (s.enterEnded c).notices = s.notices.push ⟨.pass .ended c s.psc.cues.length, s.crg.e.getD 0⟩ := by
  simp [State.enterEnded]

theorem State.enterEnded_lock (c : Option EndCause) (x : Side) : ((s.enterEnded c).rtr.get x).lock = .off := by
  simp [State.enterEnded, Tracker.enterEnded]

/-- The entry into ENDED leaves a resampler but for its wait cause. -/
theorem State.enterEnded_resampler (c : Option EndCause) (x : Side) :
    (s.enterEnded c).rsp.get x = { s.rsp.get x with wait := ((s.enterEnded c).rsp.get x).wait } := by
  simp [State.enterEnded]

theorem DefectList.settleAll_settled (d : DefectList) : ∀ e ∈ d.settleAll.entries, e.settled = true ∧ e.openBy = [] := by
  intro e he
  obtain ⟨f, -, rfl⟩ := List.mem_map.mp he
  exact ⟨rfl, rfl⟩

/-- What ABORT makes of resamplers, streams, locks and entries, from whatever state it aborts. -/
theorem State.abortOutput_ends (c : Option EndCause) :
    (∀ x, ((s.abortOutput.enterEnded c).rsp.get x).state = .off ∧
      ((s.abortOutput.enterEnded c).rsp.get x).position = (s.rsp.get x).position ∧
      ((s.abortOutput.enterEnded c).rsp.get x).baseSkew = (s.rsp.get x).baseSkew ∧
      ((s.abortOutput.enterEnded c).rtr.get x).lock = .off) ∧
    (∀ i, ((s.abortOutput.enterEnded c).sas.get i).state = .off ∧ ((s.abortOutput.enterEnded c).sas.get i).buffer = [] ∧
      ((s.abortOutput.enterEnded c).sas.get i).emit = (s.sas.get i).emit ∧
      ((s.abortOutput.enterEnded c).sas.get i).discards = (s.sas.get i).discards + (s.sas.get i).buffer.length) ∧
    ∀ e ∈ (s.abortOutput.enterEnded c).dfl.entries, e.settled = true ∧ e.openBy = [] := by
  refine ⟨fun x => ?_, fun i => ?_, ?_⟩
  · refine ⟨?_, ?_, ?_, enterEnded_lock _ c x⟩ <;> simp [State.enterEnded, State.abortOutput]
  · simp [State.enterEnded, State.abortOutput, Stream.abort]
  · rw [(s.abortOutput.enterEnded_sets c).2.2.2.2]
    exact s.abortOutput.dfl.settleAll_settled

end Abort

theorem State.passReply_ended {s : State} (hstate : s.psc.state = .ended) (hpending : s.psc.startPending = false) :
    s.passReply = [4, 0] := by
  rw [passReply_eq, hstate, hpending]
  rfl

theorem State.abortRunning_leaves (s : State) :
    s.abortRunning.psc = { s.psc with state := .ended, cause := some .aborted, startPending := false, cues := [] } ∧
      s.abortRunning.oq = { s.oq with granted := [] } ∧
      s.abortRunning.notices = s.notices.push ⟨.pass .ended (some .aborted) s.psc.cues.length, s.crg.w⟩ := by
  refine ⟨?_, ?_, ?_⟩
  · simp [State.abortRunning, State.enterEnded_psc, State.abortOutput]
  · simp [State.abortRunning, State.abortOutput]
  · have hquiet : s.stopCapture.levelAbort.notices = s.notices := (levelAbort_notices _).trans s.stopCapture_notices
    have he : s.stopCapture.crg.e = some s.crg.w := by simp [State.stopCapture]
    simp [State.abortRunning, State.enterEnded_notices, State.abortOutput, hquiet, he]

theorem State.abortDraining_leaves (s : State) :
    s.abortDraining.psc = { s.psc with state := .ended, cause := some .aborted, startPending := false, cues := [] } ∧
      s.abortDraining.oq = { s.oq with granted := [] } ∧
      s.abortDraining.notices = s.notices.push ⟨.pass .ended (some .aborted) s.psc.cues.length, s.crg.e.getD 0⟩ :=
  ⟨enterEnded_psc _ _, rfl, enterEnded_notices _ _⟩

/-- Settles O31: from both states `abortOutput` and the entry into ENDED follow; from RUNNING capture stops first, with no notice. -/
theorem abortEndsThePass : Obligations.AbortEndsThePass := by
  intro s hlisten hstate
  have hopen : s.psc.state ∈ [PassState.armed, .running, .draining] := List.mem_cons_of_mem _ hstate
  simp only [List.mem_cons, List.not_mem_nil, or_false] at hstate
  obtain hrunning | hdraining := hstate
  · obtain ⟨hended, -, hpending', -, he, hconverter, -, hgathered⟩ := s.abortRunning_sets
    have hexec : exec (.abort []) s = .next { s.abortRunning with link := answered 0x33 .ok [4, 0] } := by
      rw [exec_abort_taken hlisten hopen, State.abort_of_running hrunning, State.passReply_ended hended hpending']
      rfl
    obtain ⟨hpsc, hoq, hnotices⟩ := s.abortRunning_leaves
    obtain ⟨hpending, hclock, -, -, hrings, hw, -⟩ := s.abortRunning_keeps
    have hends := s.stopCapture.levelAbort.abortOutput_ends (some .aborted)
    have hsns := s.abortRunning_sns
    have hrsp : s.stopCapture.levelAbort.rsp = s.rsp := by simp
    have hsas : s.stopCapture.levelAbort.sas = s.sas := by simp
    rw [hrsp, hsas, show s.stopCapture.levelAbort.abortOutput.enterEnded _ = s.abortRunning from rfl] at hends
    obtain ⟨hsides, hstreams, hentries⟩ := hends
    generalize s.abortRunning = u at *
    exact ⟨_, hexec, rfl, hpsc, hoq, hw, hrings, hpending, hclock,
      fun _ => ⟨he, hconverter, hgathered, hnotices, congrArg SenseUnit.splices hsns, congrArg SenseUnit.discarded hsns⟩,
      fun h => absurd (hrunning.symm.trans h) (by decide), hsides, hstreams, hentries⟩
  · obtain ⟨hended, -, hpending', -⟩ := s.abortDraining_sets
    have hexec : exec (.abort []) s = .next { s.abortDraining with link := answered 0x33 .ok [4, 0] } := by
      rw [exec_abort_taken hlisten hopen, State.abort_of_draining hdraining, State.passReply_ended hended hpending']
      rfl
    obtain ⟨hpsc, hoq, hnotices⟩ := s.abortDraining_leaves
    obtain ⟨hpending, hclock, hcfe, hcrg, hlvm, -, -, hsns, -⟩ := s.abortDraining_keeps
    have hends := s.abortOutput_ends (some .aborted)
    rw [show s.abortOutput.enterEnded _ = s.abortDraining from rfl] at hends
    obtain ⟨hsides, hstreams, hentries⟩ := hends
    generalize s.abortDraining = u at *
    exact ⟨_, hexec, rfl, hpsc, hoq, congrArg CaptureRing.w hcrg, congrArg CaptureRing.rings hcrg, hpending, hclock,
      fun h => absurd (hdraining.symm.trans h) (by decide),
      fun _ => ⟨hcrg, hcfe, hsns, hlvm, fun e he => by rw [hnotices, he]; rfl⟩, hsides, hstreams, hentries⟩

/-! ### The completion of draining -/

theorem State.completing_iff {s : State} :
    s.completing = true ↔
      s.psc.state = .draining ∧ ∀ i, (s.psc.pass.streams.get i).enabled = true → (s.sas.get i).state = .done := by
  simp only [State.completing, State.drained, State.streamsOn, Bool.and_eq_true, decide_eq_true_eq, List.all_eq_true, List.mem_filter,
    mem_streamList, true_and]

theorem Resampler.finishDraining_state (r : Resampler) : r.finishDraining.state ≠ .draining := by
  unfold Resampler.finishDraining
  split
  · simp
  next h => exact h

theorem Resampler.finishDraining_baseSkew (r : Resampler) : r.finishDraining.baseSkew = r.baseSkew := by
  unfold Resampler.finishDraining
  split <;> rfl

/-- What the completion of draining leaves, but for the wait causes. -/
theorem State.completeDraining_resampler (s : State) (x : Side) :
    s.completeDraining.rsp.get x = { (s.rsp.get x).finishDraining with wait := (s.completeDraining.rsp.get x).wait } := by
  simp [State.completeDraining, State.enterEnded]

/-- Settles O33: the entry into ENDED, after the resamplers that still drain have finished. -/
theorem completionEntersEnded : Obligations.CompletionEntersEnded := by
  intro s done
  refine ⟨fun hdone => ⟨s.completeDraining, congrArg Host.Outcome.next (if_pos (State.completing_iff.mpr hdone)), ?_⟩,
    fun hnot => congrArg Host.Outcome.next (if_neg fun h => hnot (State.completing_iff.mp h))⟩
  obtain ⟨hpending, hclock, hcfe, hcrg, hlvm, hsas, hoq, hsns, -, -, -, -, -, hlink⟩ := s.completeDraining_keeps
  refine ⟨State.enterEnded_psc _ _, hcrg, hcfe, hlvm, hsas, hoq, hsns, hlink, hpending, hclock, State.enterEnded_notices _ _,
    (State.enterEnded_sets _ _).2.2.2.2, fun x => ⟨State.enterEnded_lock _ _ x, ?_, s.completeDraining_baseSkew x⟩⟩
  rw [congrArg Resampler.state (s.completeDraining_resampler x)]
  exact (s.rsp.get x).finishDraining_state

end Sys2Proof.Machine
end
section
/-! SUPPORT. The entry into RUNNING (spec/10 R151): the cues of boundary 0 and what the blocks hold after it, and the proofs of the
obligations about START, the settle end and the limit. -/

namespace Sys2Proof.Machine

/-! ### The cues of boundary 0 -/

theorem sourceDue_zero (x : Side) (c : Cue) : sourceDue x 0 c = c.atZero [1] x := by
  cases hbody : c.body with
  | source y src p => cases y <;> cases x <;> simp [sourceDue, Cue.atZero, hbody, CueBody.kind, CueBody.target, sideCode]
  | lift | gMax | skew | mark => simp [sourceDue, Cue.atZero, hbody, CueBody.kind]

theorem levelDue_zero (x : Side) (c : Cue) : levelDue x 0 c = c.atZero [2, 3] x := by
  cases hbody : c.body with
  | lift y on => cases y <;> cases x <;> simp [levelDue, Cue.atZero, hbody, CueBody.kind, CueBody.target, sideCode]
  | gMax y v => cases y <;> cases x <;> simp [levelDue, Cue.atZero, hbody, CueBody.kind, CueBody.target, sideCode]
  | source | skew | mark => simp [levelDue, Cue.atZero, hbody, CueBody.kind]

/-- Cues of boundary 0 for two sides, or of two groups of kinds, are different cues. -/
theorem Cue.atZero_disjoint {kinds kinds' : List Nat} {x y : Side} {c : Cue} (h : c.atZero kinds x = true)
    (hne : x ≠ y ∨ ∀ k ∈ kinds, k ∉ kinds') : c.atZero kinds' y = false := by
  simp only [Cue.atZero, decide_eq_true_eq, decide_eq_false_iff_not] at h ⊢
  obtain ⟨-, hkind, htarget⟩ := h
  rintro ⟨-, hkind', htarget'⟩
  obtain hne | hkinds := hne
  · have hcode : sideCode x = sideCode y := htarget.symm.trans htarget'
    cases x <;> cases y <;> simp [sideCode] at hcode hne
  · exact hkinds _ hkind hkind'

/-- The notices of cues taken in order at boundary 0. -/
def cueNotices (q : NoticeQueue) (cs : List Cue) : NoticeQueue :=
  cs.foldl (fun q c => q.push ⟨.cue c.body c.late, 0⟩) q

/-- From `s` the cues named have been taken, with their notices, and no other. -/
def State.took (s : State) (taken : List Cue) (t : State) : Prop :=
  t.psc.cues = s.psc.cues.filter (· ∉ taken) ∧ t.notices = cueNotices s.notices taken

theorem State.takeCues_notices (s : State) (due : Cue → Bool) {apply : Cue → State → State}
    (h : ∀ c t, (apply c t).notices = t.notices) :
    (s.takeCues due 0 apply).notices = cueNotices s.notices (s.psc.cues.filter due) := by
  unfold State.takeCues
  generalize s.psc.cues.filter due = cs
  have hfold : ∀ (cs : List Cue) (t : State),
      (cs.foldl (fun t c => (apply c t).notify (.cue c.body c.late) 0) t).notices = cueNotices t.notices cs := by
    intro cs
    induction cs with
    | nil => exact fun _ => rfl
    | cons c cs ih =>
      intro t
      rw [List.foldl_cons, ih, State.notify_notices, h]
      rfl
  exact hfold cs _

/-- Taking cues that are none of those taken before. -/
theorem State.took.takeCues {s t : State} {taken : List Cue} (h : s.took taken t) {due : Cue → Bool} {apply : Cue → State → State}
    (hcues : ∀ c t, (apply c t).psc.cues = t.psc.cues) (hnotices : ∀ c t, (apply c t).notices = t.notices)
    (hnew : ∀ c ∈ taken, due c = false) : s.took (taken ++ s.psc.cues.filter due) (t.takeCues due 0 apply) := by
  obtain ⟨ht, hq⟩ := h
  have hdue : t.psc.cues.filter due = s.psc.cues.filter due := by
    rw [ht, List.filter_filter]
    refine List.filter_congr fun c _ => ?_
    cases hc : due c with
    | false => simp
    | true =>
      have hnot : c ∉ taken := fun hmem => by rw [hnew c hmem] at hc; cases hc
      simp [hnot]
  refine ⟨?_, ?_⟩
  · rw [State.takeCues_cues _ _ _ _ hcues, ht, List.filter_filter]
    refine List.filter_congr fun c hc => ?_
    simp [hc, and_comm]
  · rw [State.takeCues_notices _ _ hnotices, hdue, hq, cueNotices, cueNotices, cueNotices, List.foldl_append]

/-! ### Boundary 0 -/

/-- Boundary 0 of one side at the tracker, and at the level monitor. -/
def State.zeroSource (s : State) (x : Side) : State :=
  if s.sideOn x then s.takeSourceCues x 0 else s

def State.zeroLevel (s : State) (x : Side) : State :=
  if s.sideOn x then s.takeLevelCues x 0 else s

theorem State.boundaryZero_eq (s : State) :
    s.boundaryZero = (((s.zeroSource .A).zeroSource .B).zeroLevel .A).zeroLevel .B :=
  rfl

/-- The cues of one boundary step. -/
def State.zeroCuesOf (s : State) (kinds : List Nat) (x : Side) : List Cue :=
  if s.sideOn x then s.psc.cues.filter (Cue.atZero kinds x) else []

theorem State.zeroCues_eq (s : State) :
    s.zeroCues = s.zeroCuesOf [1] .A ++ s.zeroCuesOf [1] .B ++ s.zeroCuesOf [2, 3] .A ++ s.zeroCuesOf [2, 3] .B := by
  unfold State.zeroCues State.zeroCuesOf
  cases hA : s.sideOn .A <;> cases hB : s.sideOn .B <;> simp [List.filter, hA, hB]

theorem State.atZero_of_mem {s : State} {kinds : List Nat} {x : Side} {c : Cue} (h : c ∈ s.zeroCuesOf kinds x) :
    c.atZero kinds x = true := by
  unfold State.zeroCuesOf at h
  split at h
  · exact (List.mem_filter.mp h).2
  · cases h

theorem State.sideOn_zeroSource (s : State) (x y : Side) : (s.zeroSource x).sideOn y = s.sideOn y := by
  unfold State.zeroSource
  split <;> simp [State.sideOn]

theorem State.sideOn_zeroLevel (s : State) (x y : Side) : (s.zeroLevel x).sideOn y = s.sideOn y := by
  unfold State.zeroLevel
  split <;> simp [State.sideOn]

section Took

variable {s t : State} {taken : List Cue}

theorem State.took.zeroSource (h : s.took taken t) (x : Side) (hon : t.sideOn x = s.sideOn x)
    (hnew : ∀ c ∈ taken, c.atZero [1] x = false) : s.took (taken ++ s.zeroCuesOf [1] x) (t.zeroSource x) := by
  unfold State.zeroSource State.zeroCuesOf
  rw [hon]
  split
  · have hdue : sourceDue x 0 = Cue.atZero [1] x := funext (sourceDue_zero x)
    rw [State.takeSourceCues, hdue]
    refine h.takeCues (fun c t => ?_) (fun c t => ?_) hnew <;> unfold applySourceCue <;> split <;> rfl
  · rwa [List.append_nil]

theorem State.took.zeroLevel (h : s.took taken t) (x : Side) (hon : t.sideOn x = s.sideOn x)
    (hnew : ∀ c ∈ taken, c.atZero [2, 3] x = false) : s.took (taken ++ s.zeroCuesOf [2, 3] x) (t.zeroLevel x) := by
  unfold State.zeroLevel State.zeroCuesOf
  rw [hon]
  split
  · have hdue : levelDue x 0 = Cue.atZero [2, 3] x := funext (levelDue_zero x)
    rw [State.takeLevelCues, hdue]
    refine h.takeCues (fun c t => ?_) (fun c t => ?_) hnew <;> unfold applyLevelCue <;> split <;> rfl
  · rwa [List.append_nil]

end Took

/-- Boundary 0 takes the cues of position 0, and tells them in their order. -/
theorem State.boundaryZero_took (s : State) : s.took s.zeroCues s.boundaryZero := by
  rw [s.zeroCues_eq, s.boundaryZero_eq]
  have hstart : s.took [] s := ⟨(List.filter_eq_self.mpr fun _ _ => by simp).symm, rfl⟩
  have hA := hstart.zeroSource .A rfl (by simp)
  have hB := hA.zeroSource .B (s.sideOn_zeroSource .A .B) fun c hc =>
    Cue.atZero_disjoint (State.atZero_of_mem (by simpa using hc)) (.inl (by decide))
  have hA' := hB.zeroLevel .A (by rw [sideOn_zeroSource, sideOn_zeroSource]) fun c hc => by
    rcases List.mem_append.mp hc with hc | hc
    · exact Cue.atZero_disjoint (State.atZero_of_mem (by simpa using hc)) (.inr (by decide))
    · exact Cue.atZero_disjoint (State.atZero_of_mem hc) (.inr (by decide))
  have hB' := hA'.zeroLevel .B (by rw [sideOn_zeroLevel, sideOn_zeroSource, sideOn_zeroSource]) fun c hc => by
    rcases List.mem_append.mp hc with hc | hc
    · rcases List.mem_append.mp hc with hc | hc
      · exact Cue.atZero_disjoint (State.atZero_of_mem (by simpa using hc)) (.inr (by decide))
      · exact Cue.atZero_disjoint (State.atZero_of_mem hc) (.inr (by decide))
    · exact Cue.atZero_disjoint (State.atZero_of_mem hc) (.inl (by decide))
  simpa using hB'

/-! ### What the blocks hold after boundary 0 -/

/-- A tracker at the start of capture: the SOURCE cues of boundary 0 change its source, its P_eff and with them its lock. -/
def Tracker.begun (t : Tracker) (on : Bool) (nominal : Nat) : Prop :=
  t.table = [] ∧ t.displaced = none ∧ t.windows = 0 ∧ t.sums = .zero ∧ t.lastAccepted = nominal ∧
    t.boundary = (if on then some 0 else none) ∧ t.lock = if on = true ∧ t.source ≠ .none then .search else .off

theorem Tracker.begun_enterRunning (t : Tracker) (on : Bool) (nominal : Nat) : (t.enterRunning on nominal).begun on nominal := by
  refine ⟨rfl, rfl, rfl, rfl, rfl, rfl, ?_⟩
  cases on <;> simp [Tracker.enterRunning]

theorem Tracker.begun.applySource {t : Tracker} {nominal : Nat} (h : t.begun true nominal) (source : SideSource) (p : Option Nat) :
    (t.applySource nominal source p).begun true nominal := by
  obtain ⟨htable, hdisplaced, hwindows, hsums, hlast, hboundary, hlock⟩ := h
  unfold Tracker.applySource
  simp only
  split
  next hsame => exact ⟨htable, hdisplaced, hwindows, hsums, hlast, hboundary, by rw [hlock, hsame.1]⟩
  next =>
    refine ⟨htable, hdisplaced, hwindows, hsums, rfl, hboundary, ?_⟩
    by_cases hsource : source = .none <;> simp [Tracker.restartLock, hsource]

/-- A monitor at the start of capture: the LIFT and GMAX cues of boundary 0 change its lift and its Gmax. -/
def Monitor.begun (m : Monitor) : Prop :=
  m.level = 0 ∧ m.ticks = 0 ∧ m.peak = 0 ∧ m.state = .quiet ∧ m.records = [] ∧ m.finalTick = none ∧ m.settled = 0

section Boundary

variable {s : State}

/-- What every SOURCE cue due for side `x` keeps of the trackers, taking them keeps. -/
theorem State.takeSourceCues_ind {P : PerSide Tracker → Prop} (x : Side) (b : Nat) (hs : P s.rtr)
    (hcue : ∀ (v : PerSide Tracker) source p, P v → P (v.set x ((v.get x).applySource s.psc.nominal source p))) :
    P (s.takeSourceCues x b).rtr := by
  have hmotive : P (s.takeSourceCues x b).rtr ∧ (s.takeSourceCues x b).psc.nominal = s.psc.nominal := by
    unfold State.takeSourceCues State.takeCues
    refine List.foldlRecOn (motive := fun t : State => P t.rtr ∧ t.psc.nominal = s.psc.nominal) _ _ ⟨hs, rfl⟩
      fun t ⟨ht, hnominal⟩ c hc => ?_
    have hdue : sourceDue x b c = true := (List.mem_filter.mp hc).2
    unfold applySourceCue
    cases hbody : c.body with
    | source y src p =>
      have hyx : y = x := by simp [sourceDue, hbody] at hdue; exact hdue.1
      subst hyx
      exact ⟨by simpa [hnominal] using hcue _ src p ht, hnominal⟩
    | lift | gMax | skew | mark => exact ⟨ht, hnominal⟩
  exact hmotive.1

theorem State.takeSourceCues_rtr_of_none (x : Side) (h : ∀ c ∈ s.psc.cues, c.atZero [1] x = false) :
    (s.takeSourceCues x 0).rtr = s.rtr := by
  have hnone : s.psc.cues.filter (sourceDue x 0) = [] :=
    List.filter_eq_nil_iff.mpr fun c hc => by rw [sourceDue_zero, h c hc]; decide
  rw [State.takeSourceCues, State.takeCues, hnone]
  rfl

/-- What every LIFT and GMAX cue due for side `x` keeps of the monitors, taking them keeps. -/
theorem State.takeLevelCues_ind {P : PerTrack Monitor → Prop} (x : Side) (b : Nat) (hs : P s.lvm)
    (hlift : ∀ (v : PerTrack Monitor) on, P v → P (v.mapIdx fun k m => if k.side = x then { m with lift := on } else m))
    (hgMax : ∀ (v : PerTrack Monitor) n, P v → P (v.mapIdx fun k m => if k.side = x then { m with gMax := n } else m)) :
    P (s.takeLevelCues x b).lvm := by
  unfold State.takeLevelCues State.takeCues
  refine List.foldlRecOn (motive := fun t : State => P t.lvm) _ _ hs fun t ht c hc => ?_
  have hdue : levelDue x b c = true := (List.mem_filter.mp hc).2
  unfold applyLevelCue
  cases hbody : c.body with
  | lift y on =>
    have hyx : y = x := by simp [levelDue, hbody] at hdue; exact hdue.1
    subst hyx
    exact hlift _ on ht
  | gMax y n =>
    have hyx : y = x := by simp [levelDue, hbody] at hdue; exact hdue.1
    subst hyx
    exact hgMax _ n ht
  | source | skew | mark => exact ht

theorem State.takeLevelCues_lvm_of_none (x : Side) (h : ∀ c ∈ s.psc.cues, c.atZero [2, 3] x = false) :
    (s.takeLevelCues x 0).lvm = s.lvm := by
  have hnone : s.psc.cues.filter (levelDue x 0) = [] :=
    List.filter_eq_nil_iff.mpr fun c hc => by rw [levelDue_zero, h c hc]; decide
  rw [State.takeLevelCues, State.takeCues, hnone]
  rfl

theorem State.zeroSource_begun (x : Side) (h : ∀ y, (s.rtr.get y).begun (s.sideOn y) s.psc.nominal) (y : Side) :
    ((s.zeroSource x).rtr.get y).begun (s.sideOn y) s.psc.nominal := by
  unfold State.zeroSource
  split
  next hon =>
    refine State.takeSourceCues_ind (P := fun v => ∀ y, (v.get y).begun (s.sideOn y) s.psc.nominal) x 0 h (fun v src p hv z => ?_) y
    by_cases hzx : z = x
    · subst hzx
      rw [PerSide.get_set_self, hon]
      exact Tracker.begun.applySource (hon ▸ hv z) src p
    · rw [PerSide.get_set_of_ne _ _ hzx]
      exact hv z
  · exact h y

theorem State.zeroSource_get_of_none (x y : Side) (h : ∀ c ∈ s.psc.cues, c.atZero [1] x = false) :
    (s.zeroSource y).rtr.get x = s.rtr.get x := by
  unfold State.zeroSource
  split
  · by_cases hxy : x = y
    · rw [← hxy, State.takeSourceCues_rtr_of_none x h]
    · exact State.takeSourceCues_ind (P := fun v => v.get x = s.rtr.get x) y 0 rfl fun v src p hv => by
        rw [PerSide.get_set_of_ne _ _ hxy, hv]
  · rfl

theorem State.zeroLevel_begun (x : Side) (h : ∀ k, (s.lvm.get k).begun) (k : Track) : ((s.zeroLevel x).lvm.get k).begun := by
  unfold State.zeroLevel
  split
  · refine State.takeLevelCues_ind (P := fun v => ∀ k, (v.get k).begun) x 0 h (fun v on hv j => ?_) (fun v n hv j => ?_) k <;>
      rw [PerTrack.get_mapIdx] <;> split <;> exact hv j
  · exact h k

theorem State.zeroLevel_get_of_none (x : Side) (k : Track) (h : ∀ c ∈ s.psc.cues, c.atZero [2, 3] k.side = false) :
    (s.zeroLevel x).lvm.get k = s.lvm.get k := by
  unfold State.zeroLevel
  split
  · by_cases hkx : k.side = x
    · rw [← hkx, State.takeLevelCues_lvm_of_none _ h]
    · refine State.takeLevelCues_ind (P := fun v => v.get k = s.lvm.get k) x 0 rfl (fun v on hv => ?_) (fun v n hv => ?_) <;>
        rw [PerTrack.get_mapIdx, if_neg hkx, hv]
  · rfl

theorem State.zeroSource_sublist (x : Side) : (s.zeroSource x).psc.cues.Sublist s.psc.cues := by
  unfold State.zeroSource
  split
  · exact s.takeSourceCues_sublist x 0
  · exact List.Sublist.refl _

theorem State.zeroLevel_sublist (x : Side) : (s.zeroLevel x).psc.cues.Sublist s.psc.cues := by
  unfold State.zeroLevel
  split
  · exact s.takeLevelCues_sublist x 0
  · exact List.Sublist.refl _

theorem State.zeroSource_nominal (x : Side) : (s.zeroSource x).psc.nominal = s.psc.nominal := by
  unfold State.zeroSource
  split <;> simp

theorem State.zeroSource_lvm (x : Side) : (s.zeroSource x).lvm = s.lvm := by
  unfold State.zeroSource
  split <;> simp

theorem State.zeroLevel_rtr (x : Side) : (s.zeroLevel x).rtr = s.rtr := by
  unfold State.zeroLevel
  split <;> simp

theorem State.boundaryZero_rtr : s.boundaryZero.rtr = ((s.zeroSource .A).zeroSource .B).rtr := by
  rw [s.boundaryZero_eq, zeroLevel_rtr, zeroLevel_rtr]

theorem State.boundaryZero_begun (h : ∀ y, (s.rtr.get y).begun (s.sideOn y) s.psc.nominal) (y : Side) :
    (s.boundaryZero.rtr.get y).begun (s.sideOn y) s.psc.nominal := by
  rw [boundaryZero_rtr, ← s.sideOn_zeroSource .A y, ← s.zeroSource_nominal (x := .A)]
  refine State.zeroSource_begun .B (fun z => ?_) y
  rw [sideOn_zeroSource, zeroSource_nominal]
  exact State.zeroSource_begun .A h z

theorem State.boundaryZero_tracker_of_none (x : Side) (h : ∀ c ∈ s.psc.cues, c.atZero [1] x = false) :
    s.boundaryZero.rtr.get x = s.rtr.get x := by
  rw [boundaryZero_rtr, State.zeroSource_get_of_none x .B fun c hc => h c ((s.zeroSource_sublist .A).mem hc),
    State.zeroSource_get_of_none x .A h]

theorem State.boundaryZero_monitor_begun (h : ∀ k, (s.lvm.get k).begun) (k : Track) : (s.boundaryZero.lvm.get k).begun := by
  rw [s.boundaryZero_eq]
  refine State.zeroLevel_begun .B (State.zeroLevel_begun .A ?_) k
  rw [zeroSource_lvm, zeroSource_lvm]
  exact h

theorem State.boundaryZero_monitor_of_none (k : Track) (h : ∀ c ∈ s.psc.cues, c.atZero [2, 3] k.side = false) :
    s.boundaryZero.lvm.get k = s.lvm.get k := by
  have hA : ((s.zeroSource .A).zeroSource .B).psc.cues.Sublist s.psc.cues :=
    (State.zeroSource_sublist .B).trans (State.zeroSource_sublist .A)
  rw [s.boundaryZero_eq, State.zeroLevel_get_of_none .B k fun c hc => h c (hA.mem ((State.zeroLevel_sublist .A).mem hc)),
    State.zeroLevel_get_of_none .A k fun c hc => h c (hA.mem hc), zeroSource_lvm, zeroSource_lvm]

end Boundary

/-! ### The entry into RUNNING -/

/-- With no entry in its table and none displaced, an active side waits for its entry. -/
theorem State.waitCause_of_empty {s : State} {x : Side} (hactive : (s.rsp.get x).state = .active)
    (htable : (s.rtr.get x).table = []) (hdisplaced : (s.rtr.get x).displaced = none) : s.waitCause x = .entry := by
  simp [State.waitCause, hactive, State.gateCause, State.frameEntry, Tracker.entry, tableEntry, slotFind, htable, hdisplaced]

theorem PassController.eq_of_fields {p q : PassController} (hstate : p.state = q.state) (hcause : p.cause = q.cause)
    (hpending : p.startPending = q.startPending) (harmed : p.armed = q.armed) (hstored : p.stored = q.stored) (hpass : p.pass = q.pass)
    (hnominal : p.nominal = q.nominal) (hclass : p.coefficients = q.coefficients) (hcues : p.cues = q.cues) : p = q := by
  cases p
  cases q
  simp only at *
  subst hstate hcause hpending harmed hstored hpass hnominal hclass hcues
  rfl

/-- The state in which boundary 0 is taken. -/
def State.begins (s : State) : State :=
  s.beginCapture.notify (.pass .running none 0) 0

section Entry

variable (s : State)

theorem State.enterRunning_eq : s.enterRunning = s.begins.boundaryZero.testGates :=
  rfl

theorem State.enterRunning_psc :
    s.enterRunning.psc =
      { s.psc with state := .running, startPending := false, cues := s.psc.cues.filter (· ∉ s.zeroCues) } := by
  obtain ⟨-, -, -, -, -, -, -, -, -, hstate, hcause, hpending, harmed, hstored, hpass, hnominal, hclass, -⟩ :=
    s.begins.boundaryZero_keeps
  have hcues : s.begins.boundaryZero.psc.cues = s.psc.cues.filter (· ∉ s.zeroCues) := s.begins.boundaryZero_took.1
  rw [enterRunning_eq, testGates_psc]
  exact PassController.eq_of_fields hstate hcause hpending harmed hstored hpass hnominal hclass hcues

theorem State.enterRunning_notices :
    s.enterRunning.notices =
      s.zeroCues.foldl (fun q c => q.push ⟨.cue c.body c.late, 0⟩) (s.notices.push ⟨.pass .running none 0, 0⟩) :=
  s.begins.boundaryZero_took.2

theorem State.enterRunning_begun (x : Side) : (s.enterRunning.rtr.get x).begun (s.sideOn x) s.psc.nominal := by
  have hbegins : ∀ y, (s.begins.rtr.get y).begun (s.begins.sideOn y) s.begins.psc.nominal := fun y => by
    have hget : s.begins.rtr.get y = (s.rtr.get y).enterRunning (s.sideOn y) s.psc.nominal := PerSide.get_mapIdx ..
    rw [hget]
    exact (s.rtr.get y).begun_enterRunning _ _
  exact s.begins.boundaryZero_begun hbegins x

theorem State.enterRunning_tracker_of_none (x : Side) (h : ∀ c ∈ s.psc.cues, c.atZero [1] x = false) :
    s.enterRunning.rtr.get x = (s.rtr.get x).enterRunning (s.sideOn x) s.psc.nominal := by
  have hget : s.begins.rtr.get x = (s.rtr.get x).enterRunning (s.sideOn x) s.psc.nominal := PerSide.get_mapIdx ..
  rw [← hget]
  exact s.begins.boundaryZero_tracker_of_none x h

theorem State.enterRunning_monitor_begun (k : Track) : (s.enterRunning.lvm.get k).begun := by
  refine s.begins.boundaryZero_monitor_begun (fun j => ?_) k
  have hget : s.begins.lvm.get j = (s.lvm.get j).enterRunning := PerTrack.get_map ..
  rw [hget]
  exact ⟨rfl, rfl, rfl, rfl, rfl, rfl, rfl⟩

theorem State.enterRunning_monitor_of_none (k : Track) (h : ∀ c ∈ s.psc.cues, c.atZero [2, 3] k.side = false) :
    s.enterRunning.lvm.get k = (s.lvm.get k).enterRunning := by
  have hget : s.begins.lvm.get k = (s.lvm.get k).enterRunning := PerTrack.get_map ..
  rw [← hget]
  exact s.begins.boundaryZero_monitor_of_none k h

theorem State.enterRunning_resampler (x : Side) :
    s.enterRunning.rsp.get x =
      { s.rsp.get x with state := if s.sideOn x then .active else .off, wait := if s.sideOn x then .entry else .none } := by
  have hget : s.begins.boundaryZero.rsp.get x = { s.rsp.get x with state := if s.sideOn x then .active else .off } := by
    simp [State.begins, State.beginCapture]
  have hbegun := s.enterRunning_begun x
  obtain ⟨htable, hdisplaced, -⟩ := hbegun
  rw [enterRunning_eq, testGates_get_rsp, hget]
  cases hon : s.sideOn x with
  | true =>
    have hactive : (s.begins.boundaryZero.rsp.get x).state = .active := by rw [hget, hon]; rfl
    rw [State.waitCause_of_empty hactive htable hdisplaced]
    rfl
  | false =>
    have hoff : (s.begins.boundaryZero.rsp.get x).state = .off := by rw [hget, hon]; rfl
    have hwait : s.begins.boundaryZero.waitCause x = .none := by simp only [State.waitCause, hoff]
    rw [hwait]
    rfl

/-- The entry into RUNNING makes what R151 says. -/
theorem State.enterRunning_begunAs : s.begunAs s.enterRunning := by
  obtain ⟨hpending, hclock, hcfe, hcrg, hdfl, -, hsas, hoq, hsns, -⟩ := s.begins.boundaryZero_keeps
  refine ⟨s.enterRunning_psc, s.enterRunning_notices, hcfe, hcrg, hdfl, hoq, hpending, hclock, hsns, fun x => ?_, fun i => ?_,
    fun k => ?_⟩
  · obtain ⟨htable, hdisplaced, hwindows, hsums, hlast, hboundary, hlock⟩ := s.enterRunning_begun x
    exact ⟨s.enterRunning_resampler x, htable, hdisplaced, hwindows, hsums, hlast, hboundary, hlock,
      fun hnone => by rw [s.enterRunning_tracker_of_none x hnone]; exact ⟨rfl, rfl⟩⟩
  · have hget : s.enterRunning.sas.get i = (s.sas.get i).enterRunning (s.psc.pass.streams.get i).enabled := by
      rw [enterRunning_eq, testGates_sas, hsas]
      exact PerStream.get_mapIdx ..
    exact hget
  · obtain ⟨hlevel, hticks, hpeak, hstate, hrecords, hfinal, hsettled⟩ := s.enterRunning_monitor_begun k
    exact ⟨hlevel, hticks, hpeak, hstate, hrecords, hfinal, hsettled,
      fun hnone => by rw [s.enterRunning_monitor_of_none k hnone]; exact ⟨rfl, rfl⟩⟩

end Entry

/-! ### START, the settle end and the limit -/

theorem exec_start_taken {s : State} (hlisten : s.listening = true) (h : s.psc.state = .armed ∨ s.psc.state = .running) :
    exec (.start []) s = .next (s.start.send 0x31) := by
  have hopen : s.startRefused = none := by obtain h | h := h <;> simp [State.startRefused, h]
  refine congrArg Host.Outcome.next ?_
  rw [hopen]
  exact s.takeRequest_taken 0x31 0 [] _ hlisten rfl

theorem State.start_again {s : State} (h : s.psc.state = .running ∨ s.psc.startPending = true) : s.start = ⟨s, .already, s.passReply⟩ :=
  if_pos h

theorem State.start_first {s : State} (hstate : s.psc.state = .armed) (hpending : s.psc.startPending = false) :
    s.start = ⟨s.startRequest, .ok, s.startRequest.passReply⟩ :=
  if_neg (by simp [hstate, hpending])

/-- Settles O29: the settled converters decide between the entry into RUNNING and a pending start. -/
theorem startBeginsCapture : Obligations.StartBeginsCapture := by
  intro s hlisten
  refine ⟨fun harmed hpending hsettling => ?_, fun harmed hpending hsettled => ?_, fun hagain => ?_⟩
  · have hrequest : s.startRequest = { s with psc := { s.psc with startPending := true } } := if_neg hsettling
    rw [exec_start_taken hlisten (.inl harmed), State.start_first harmed hpending, State.passReply_eq, hrequest, harmed]
    rfl
  · have hrequest : s.startRequest = s.enterRunning := if_pos hsettled
    have hbegun := s.enterRunning_begunAs
    have hexec : exec (.start []) s = .next { s.enterRunning with link := answered 0x31 .ok [2, 0] } := by
      rw [exec_start_taken hlisten (.inl harmed), State.start_first harmed hpending, State.passReply_eq, hrequest,
        s.enterRunning_psc]
      rfl
    generalize s.enterRunning = u at *
    exact ⟨_, hexec, rfl, hbegun⟩
  · have hopen : s.psc.state = .armed ∨ s.psc.state = .running := hagain.elim .inr fun h => .inl h.1
    rw [exec_start_taken hlisten hopen, State.start_again (hagain.imp_right And.right), State.passReply_eq]
    rfl

theorem State.atLimit_iff {s : State} : s.atLimit = true ↔ s.psc.state = .running ∧ s.crg.w = 2 ^ 40 - 1 := by
  simp [State.atLimit, Config.captureLimit]

/-- Settles O32: the settle end enters RUNNING where a start is pending; the limit is an end of capture. -/
theorem settleEndAndLimit : Obligations.SettleEndAndLimit := by
  intro s
  refine ⟨fun hsettling hpending => ?_, fun hsettling hpending => ?_, fun hother => congrArg Host.Outcome.next (if_neg hother),
    fun hrunning hw => ?_, fun hother => congrArg Host.Outcome.next (if_neg fun h => ?_)⟩
  · have hend : s.settleEnd = { s with cfe := { s.cfe with converter := .settled, settleCount := 0 } } :=
      if_neg (Bool.not_eq_true _ ▸ hpending)
    exact congrArg Host.Outcome.next ((if_pos hsettling).trans hend)
  · have hend : s.settleEnd = State.enterRunning { s with cfe := { s.cfe with converter := .settled, settleCount := 0 } } :=
      if_pos hpending
    exact ⟨_, congrArg Host.Outcome.next ((if_pos hsettling).trans hend), State.enterRunning_begunAs _, by simp⟩
  · obtain ⟨-, -, he, hconverter, -, hgathered, -⟩ := s.endCapture_sets .limit
    obtain ⟨hpending, hclock, -, -, hrings, hw', -, -, hlines, -, -, -, -, -, -, -, -, -, -, -, -, hlink⟩ := s.endCapture_keeps .limit
    exact ⟨_, congrArg Host.Outcome.next (if_pos (State.atLimit_iff.mpr ⟨hrunning, hw⟩)), s.endCapture_psc .limit, hw ▸ he,
      hw'.trans hw, hrings, hconverter, hgathered, hlines, hlink, hpending, hclock⟩
  · obtain ⟨hrunning, hw⟩ := State.atLimit_iff.mp h
    exact hother.elim (· hrunning) (· hw)

end Sys2Proof.Machine
end
section
/-! SUPPORT. The full defect list (spec/05 R83) and the slot grant (spec/08 R128), and the proofs of their obligations. -/

namespace Sys2Proof.Machine

/-! ### A new span on a full list -/

theorem mem_reporterList (q : Reporter) : q ∈ Reporter.list := by
  match q with
  | .clip k => exact List.mem_append_left _ (List.mem_append_left _ (List.mem_append_left _ (List.mem_map_of_mem (mem_trackList k))))
  | .dropout k => exact List.mem_append_left _ (List.mem_append_left _ (List.mem_append_right _ (List.mem_map_of_mem (mem_trackList k))))
  | .lossSide x =>
    have hx : x ∈ Side.list := by cases x <;> decide
    exact List.mem_append_left _ (List.mem_append_right _ (List.mem_map_of_mem hx))
  | .lossStream i => exact List.mem_append_right _ (List.mem_map_of_mem (mem_streamList i))

section FullList

variable (d : DefectList) (r : SpanReport)

/-- Unlinking a reporter leaves which entries a span meets. -/
theorem DefectList.length_met_unlinkOption :
    ((d.unlinkOption r.openAs).entries.filter r.entry.meets).length = (d.entries.filter r.entry.meets).length := by
  cases r.openAs with
  | none => rfl
  | some q =>
    have hmeets : r.entry.meets ∘ (fun e : DefectEntry => { e with openBy := e.openBy.filter fun p => decide (p ≠ q) }) =
        r.entry.meets := rfl
    rw [unlinkOption, unlink, List.filter_map, hmeets, List.length_map]

theorem DefectList.any_met_unlinkOption :
    (d.unlinkOption r.openAs).entries.any r.entry.meets = true ↔ d.entries.filter r.entry.meets ≠ [] := by
  rw [← List.length_pos_iff, ← d.length_met_unlinkOption r, List.length_pos_iff, ne_eq, List.filter_eq_nil_iff]
  simp

theorem DefectList.fullArmed_unlinkOption (q : Option Reporter) : (d.unlinkOption q).fullArmed = d.fullArmed := by
  cases q <;> rfl

/-- On a full list a span that meets no entry is not stored. -/
theorem DefectList.newSpan_unstored (hfull : d.entries.length = 512) (hmet : d.entries.filter r.entry.meets = []) :
    d.newSpan r =
      ({ d.unlinkOption r.openAs with
          unlistedBy := openUnion (d.unlinkOption r.openAs).unlistedBy r.openAs.toList
          unlisted := d.unlisted.bump r.kind, fullArmed := false }, d.fullArmed) := by
  have hany : (d.unlinkOption r.openAs).entries.any r.entry.meets = false :=
    Bool.eq_false_iff.mpr fun hany => (d.any_met_unlinkOption r).mp hany hmet
  have hlen : (d.unlinkOption r.openAs).entries.length = 512 := (d.length_unlinkOption _).trans hfull
  simp [newSpan, hany, hlen, d.unlisted_unlinkOption, d.fullArmed_unlinkOption]

/-- A span that meets an entry is merged, full list or not. -/
theorem DefectList.newSpan_merged (hmet : d.entries.filter r.entry.meets ≠ []) :
    d.newSpan r = ({ d.unlinkOption r.openAs with entries := absorb r.entry (d.unlinkOption r.openAs).entries }, false) := by
  have hany : (d.unlinkOption r.openAs).entries.any r.entry.meets = true := (d.any_met_unlinkOption r).mpr hmet
  simp [newSpan, hany]

theorem State.takeSpan_eq (s : State) : s.takeSpan r =
    { s with
      dfl := (s.dfl.newSpan r).1.settle s.settlingLimit
      notices := if (s.dfl.newSpan r).2 then s.notices.push ⟨.defectsFull r.kind, s.crg.w⟩ else s.notices } := by
  unfold State.takeSpan
  simp only
  split <;> rfl

end FullList

/-- Settles O43: what `newSpan` makes of a full list, and the settling that follows. -/
theorem fullListCountsUnlistedSpans : Obligations.FullListCountsUnlistedSpans := by
  intro s r hfull met t
  have ht : t = { s with
      dfl := (s.dfl.newSpan r).1.settle s.settlingLimit
      notices := if (s.dfl.newSpan r).2 then s.notices.push ⟨.defectsFull r.kind, s.crg.w⟩ else s.notices } :=
    State.takeSpan_eq r s
  refine ⟨by rw [ht], fun hmet => ?_, fun hmet => ?_⟩
  · rw [ht, s.dfl.newSpan_unstored r hfull hmet]
    refine ⟨?_, rfl, rfl, fun q hq => ?_, rfl⟩
    · exact (List.length_map _).trans ((s.dfl.length_unlinkOption _).trans hfull)
    · exact List.mem_filter.mpr ⟨mem_reporterList q, by simp [hq]⟩
  · rw [ht, s.dfl.newSpan_merged r hmet]
    refine ⟨?_, s.dfl.unlisted_unlinkOption _, s.dfl.fullArmed_unlinkOption _, rfl⟩
    have habsorb := length_absorb r.entry (s.dfl.unlinkOption r.openAs).entries
    have hlen : (s.dfl.unlinkOption r.openAs).entries.length = 512 := (s.dfl.length_unlinkOption _).trans hfull
    have hmetlen : ((s.dfl.unlinkOption r.openAs).entries.filter r.entry.meets).length = met.length :=
      s.dfl.length_met_unlinkOption r
    rw [hlen, hmetlen] at habsorb
    exact (congrArg (· + met.length) (List.length_map _)).trans habsorb

/-! ### The slot grant -/

theorem Stream.waits_iff (st : Stream) : st.waits = true ↔ st.state = .waiting ∨ st.state = .finalWait := by
  simp [waits]

/-- A block that carries its check carries the CRC of its fields and data, of which the CRC is no part. -/
theorem Block.crc_of_check {b b' : Block} {c : BitVec 16} (hc : b.check = c) (hb : b' = { b with crc := c }) :
    b'.crc = crc16 (b'.headFields ++ [0, 0, 0] ++ b'.data) := by
  subst hb
  exact hc.symm

/-- The block a stream seals, field by field. -/
theorem sealBlock_fields (i : Fin 8) (d : Descriptor) (st : Stream) (final : Bool) (e : Nat) :
    let b := sealBlock i d st final e
    let sideB := d.source.code = 1
    b.stream = i ∧ b.source = d.source ∧ b.format = d.format ∧ b.flags = st.flags ∧ b.finalFlag = final ∧
      b.partialFlag = (final && decide (st.buffer.length < d.framesPerBlock)) ∧ b.reversed = decide sideB ∧
      b.frames = st.buffer.length ∧ b.emit = st.emit ∧ b.order = (if sideB then -(st.emit : Int) else st.emit) ∧
      b.first = (if st.buffer = [] then e else st.first) ∧ b.last = (if st.buffer = [] then e else st.last) ∧
      b.data = (if sideB then st.buffer.reverse.flatten else st.buffer.flatten) ∧
      b.crc = crc16 (b.headFields ++ [0, 0, 0] ++ b.data) := by
  have hB : d.source.isB = decide (d.source.code = 1) := by
    match d.source with
    | .side .A _ _ | .side .B _ _ | .raw _ => rfl
  refine ⟨rfl, rfl, rfl, rfl, rfl, rfl, hB, rfl, rfl, ?_, ?_, ?_, ?_, Block.crc_of_check rfl rfl⟩
  · simp [sealBlock, hB]
  · simp [sealBlock, List.length_eq_zero_iff]
  · simp [sealBlock, List.length_eq_zero_iff]
  · simp only [sealBlock, slotOrder, hB, decide_eq_true_eq]
    split <;> rfl

section Grant

variable {s : State}

theorem State.grantSlot_stay (h : ∀ i, s.grantee = some i → s.oq.blocks.length < Config.queueBlocks → (s.sas.get i).waits = false) :
    s.grantSlot = s := by
  unfold State.grantSlot
  split
  · rfl
  next i hi =>
    split
    next hroom =>
      have hwaits := h i hi hroom
      split
      next hstate => simp [Stream.waits, hstate] at hwaits
      next hstate => simp [Stream.waits, hstate] at hwaits
      all_goals rfl
    next => rfl

/-- A stream that waits and to which the slot goes seals its block. -/
theorem State.grantSlot_seal {i : Fin 8} (hi : s.grantee = some i) (hwaits : (s.sas.get i).waits = true)
    (hroom : s.oq.blocks.length < 64) :
    s.grantSlot = s.useGrant.sealStream i (decide ((s.sas.get i).state = .finalWait))
      (if decide ((s.sas.get i).state = .finalWait) then .done else .filling) := by
  obtain hstate | hstate := (Stream.waits_iff _).mp hwaits <;> simp [State.grantSlot, hi, hroom, hstate]

/-- With nothing granted the slot goes to the first stream that waits. -/
theorem State.grantee_eq {i : Fin 8} (hwaits : (s.sas.get i).waits = true)
    (h : s.oq.granted.head? = some i ∨ (s.oq.granted = [] ∧ ∀ j, j < i → (s.sas.get j).waits = false)) : s.grantee = some i := by
  rw [State.grantee, List.head?_append]
  obtain h | ⟨hnone, hfirst⟩ := h
  · rw [h]
    rfl
  · rw [hnone, State.waiting, List.head?_filter, Settings.find_streamList hwaits hfirst]
    rfl

end Grant

/-- Settles O48: the grant goes to one stream, and the sealed block is `sealBlock`'s. -/
theorem slotGrantSealsTheLowestWaiting : Obligations.SlotGrantSealsTheLowestWaiting := by
  intro s
  have hexec : exec .slotGrant s = .next s.grantSlot.testGates := rfl
  refine ⟨fun hnone => ?_, fun i hwaits hgrant hroom => ?_⟩
  · rw [hexec, State.grantSlot_stay]
    intro i _ hroom
    obtain hnone | hfull := hnone
    · simpa [Stream.waits] using hnone i
    · exact absurd hroom (Nat.not_lt.mpr hfull)
  · have hwaits' := (Stream.waits_iff _).mpr hwaits
    have hgrantee : s.grantee = some i := State.grantee_eq hwaits' <| hgrant.imp_right fun ⟨hnone, hfirst⟩ =>
      ⟨hnone, fun j hj => by simpa [Stream.waits] using hfirst j hj⟩
    intro d st final sideB
    refine ⟨sealBlock i d st final (s.crg.e.getD 0), ?_, sealBlock_fields i d st final _⟩
    rw [hexec, State.grantSlot_seal hgrantee hwaits' hroom]
    rfl

end Sys2Proof.Machine
end
section
/-! PROOFS. The resampler's gate and its wait cause (O45). -/

namespace Sys2Proof.Machine

/-! ### The gate's conditions -/

namespace State

variable {s : State} {x : Side}

/-- The entry that serves the window side `x`'s read position stands in. -/
def windowEntry (s : State) (x : Side) : Option SpeedEntry :=
  (s.rtr.get x).entry (tableSlots (s.psc.pass.sides.get x).window) (s.windowOf x (s.rsp.get x).index)

/-- Every restored stream of side `x` has room for a frame. -/
def roomy (s : State) (x : Side) : Prop :=
  ∀ j, s.restores x j = true →
    (s.sas.get j).state = .filling ∧ (s.sas.get j).buffer.length < (s.psc.pass.streams.get j).framesPerBlock

theorem frameEntry_eq_none_iff : s.frameEntry x = none ↔ (s.windowEntry x).bind (·.appliedStep) = none := by
  unfold frameEntry windowEntry
  split
  next e he => simp [he]
  next he => simp [he]

theorem frameEntry_eq_some_iff {e : SpeedEntry} {a : Nat} :
    s.frameEntry x = some (e, a) ↔ s.windowEntry x = some e ∧ e.appliedStep = some a := by
  unfold frameEntry windowEntry
  split
  next e' he =>
    rw [he, Option.map_eq_some_iff]
    constructor
    · rintro ⟨b, hb, hpair⟩
      cases hpair
      exact ⟨rfl, hb⟩
    · rintro ⟨he', ha⟩
      cases he'
      exact ⟨a, ha, rfl⟩
  next he => simp [he]

theorem mem_restoredStreams {j : Fin 8} : j ∈ s.restoredStreams x ↔ s.restores x j = true := by
  simp [restoredStreams, mem_streamList]

theorem all_hasRoom_iff : (s.restoredStreams x).all s.hasRoom = true ↔ s.roomy x := by
  simp only [List.all_eq_true, mem_restoredStreams, hasRoom, roomy, Bool.and_eq_true, decide_eq_true_eq]

/-! ### The wait cause -/

theorem gateCause_of_noEntry (h : s.frameEntry x = none) : s.gateCause x = .entry := by
  simp [gateCause, h]

theorem gateCause_of_unsettled (h : s.frameEntry x ≠ none) (hs : s.sideSettled x ≤ (s.rsp.get x).index + 16) :
    s.gateCause x = .settle := by
  simp [gateCause, h, hs]

theorem gateCause_of_noRoom (h : s.frameEntry x ≠ none) (hs : (s.rsp.get x).index + 16 < s.sideSettled x) (hroom : ¬s.roomy x) :
    s.gateCause x = .room := by
  simp only [gateCause, Option.isNone_iff_eq_none, h, if_false, Nat.not_le.mpr hs, all_hasRoom_iff, hroom]

theorem gateCause_eq_none_iff :
    s.gateCause x = .none ↔ s.frameEntry x ≠ none ∧ (s.rsp.get x).index + 16 < s.sideSettled x ∧ s.roomy x := by
  unfold gateCause
  simp only [Option.isNone_iff_eq_none]
  split
  next h => simp [h]
  next h =>
    split
    next hs => simp [Nat.not_lt.mpr hs]
    next hs =>
      split
      next hr => simp [h, Nat.not_le.mp hs, all_hasRoom_iff.mp hr]
      next hr => simp [mt all_hasRoom_iff.mpr hr]

theorem waitCause_of_idle (h : (s.rsp.get x).state = .off ∨ (s.rsp.get x).state = .finished) : s.waitCause x = .none := by
  unfold waitCause
  rcases h with h | h <;> rw [h]

theorem waitCause_of_running (h : (s.rsp.get x).state = .active ∨ (s.rsp.get x).state = .draining) :
    s.waitCause x = s.gateCause x := by
  unfold waitCause
  rcases h with h | h <;> rw [h]

end State

/-- Settles O45: the wait cause by the first condition of the gate that fails. -/
theorem waitCauseNamesTheFirstFailure : Obligations.WaitCauseNamesTheFirstFailure := by
  intro s x r i w entry settled room
  have hwait : (s.testGates.rsp.get x).wait = s.waitCause x := congrArg Resampler.wait (State.testGates_get_rsp s x)
  have hentry : s.frameEntry x = none ↔ entry = none := State.frameEntry_eq_none_iff
  refine ⟨?_, rfl, fun h => hwait.trans (State.waitCause_of_idle h), fun h => ?_⟩
  · rw [hwait]
    exact State.testGates_get_rsp s x
  · have hcause := hwait.trans (State.waitCause_of_running h)
    refine ⟨fun he => ?_, fun he hs => ?_, fun he hs hr => ?_, fun he hs hr => ?_⟩
    · exact hcause.trans (State.gateCause_of_noEntry (hentry.mpr he))
    · exact hcause.trans (State.gateCause_of_unsettled (mt hentry.mp he) hs)
    · exact hcause.trans (State.gateCause_of_noRoom (mt hentry.mp he) hs hr)
    · exact hcause.trans (State.gateCause_eq_none_iff.mpr ⟨mt hentry.mp he, hs, hr⟩)

end Sys2Proof.Machine
end
section
/-! PROOFS. What a slot, a completed block and an end mark make of one stream and of the output queue; the take of a sample group (O47). -/

namespace Sys2Proof.Machine

/-- A test raised at one element of a list without repetition holds at one element more. -/
theorem length_filter_raised {α : Type} {l : List α} {p q : α → Bool} {i : α} (hl : l.Nodup) (hi : i ∈ l) (hp : p i = false)
    (hq : q i = true) (hsame : ∀ j, j ≠ i → q j = p j) : (l.filter q).length = (l.filter p).length + 1 := by
  induction l with
  | nil => cases hi
  | cons a l ih =>
    obtain ⟨hnot, hl⟩ := List.nodup_cons.mp hl
    rcases List.mem_cons.mp hi with rfl | hi
    · have htail : l.filter q = l.filter p := List.filter_congr fun j hj => hsame j fun h => hnot (h ▸ hj)
      simp [hp, hq, htail]
    · have ha : q a = p a := hsame a fun h => hnot (h ▸ hi)
      have htail := ih hl hi
      cases hpa : p a <;> simp [hpa, ha, htail]

/-! ### One stream handled -/

/-- The slots of the output queue that are taken or spoken for: its blocks, and a slot for each stream that waits. -/
def State.load (s : State) : Nat :=
  s.oq.blocks.length + s.waiting.length

/-- The block of a sealing: the stream, the stream as it was sealed, and whether the block is its last. -/
def State.blockOf (s : State) (p : Fin 8 × Stream × Bool) : Block :=
  sealBlock p.1 (s.psc.pass.streams.get p.1) p.2.1 p.2.2 (s.crg.e.getD 0)

/-- Stream `i` left as `st`, after sealings. -/
def State.handled (s : State) (i : Fin 8) (st : Stream) (ps : List (Fin 8 × Stream × Bool)) : State :=
  { s with sas := s.sas.set i st, oq := { s.oq with blocks := s.oq.blocks ++ ps.map s.blockOf } }

theorem State.handled_oq (s : State) (i : Fin 8) (st : Stream) (ps : List (Fin 8 × Stream × Bool)) :
    (s.handled i st ps).oq = { s.oq with blocks := s.oq.blocks ++ ps.map s.blockOf } := rfl

/-- A block depends on the descriptors of the pass and on E. -/
theorem State.blockOf_congr {s t : State} (hpsc : t.psc = s.psc) (he : t.crg.e = s.crg.e) : t.blockOf = s.blockOf := by
  unfold blockOf
  rw [hpsc, he]

theorem Stream.afterSeal_eq (st : Stream) (next : StreamState) : st.afterSeal next = st.emptied next := rfl

theorem sealBlock_carries (i : Fin 8) (d : Descriptor) (st : Stream) (final : Bool) (e : Nat) :
    (sealBlock i d st final e).carries i d st final e := by
  have hfields := sealBlock_fields i d st final e
  unfold Block.carries
  cases hsource : d.source with
  | side x l r => cases x <;> simpa [hsource, StreamSource.code] using hfields
  | raw ts => simpa [hsource, StreamSource.code] using hfields

theorem PerStream.set_set {α : Type} (v : PerStream α) (i : Fin 8) (x y : α) : (v.set i x).set i y = v.set i y := by
  match i with
  | 0 | 1 | 2 | 3 | 4 | 5 | 6 | 7 => rfl

theorem State.carriedAs_map (s : State) (ps : List (Fin 8 × Stream × Bool)) :
    carriedAs s.psc.pass.streams (s.crg.e.getD 0) (ps.map s.blockOf) ps := by
  induction ps with
  | nil => trivial
  | cons p ps ih => exact ⟨sealBlock_carries p.1 _ p.2.1 p.2.2 _, ih⟩

theorem State.slotFree_eq (s : State) : s.slotFree = decide (s.load < 64) := rfl

namespace State

variable {s : State} {i : Fin 8}

theorem waiting_set_same {v : PerStream Stream} {st : Stream} (h : st.waits = (v.get i).waits) :
    (streamList.filter fun j => ((v.set i st).get j).waits) = streamList.filter fun j => (v.get j).waits := by
  refine List.filter_congr fun j _ => ?_
  by_cases hj : j = i
  · subst hj
    rw [PerStream.get_set_self, h]
  · rw [PerStream.get_set_of_ne _ _ hj]

theorem length_waiting_set_raised {v : PerStream Stream} {st : Stream} (h : st.waits = true) (hv : (v.get i).waits = false) :
    (streamList.filter fun j => ((v.set i st).get j).waits).length = (streamList.filter fun j => (v.get j).waits).length + 1 :=
  length_filter_raised nodup_streamList (mem_streamList i) hv (by simpa using h) fun j hj => by rw [PerStream.get_set_of_ne _ _ hj]

theorem load_handled_same {st : Stream} {ps : List (Fin 8 × Stream × Bool)} (h : st.waits = (s.sas.get i).waits) :
    (s.handled i st ps).load = s.load + ps.length := by
  have hwait : (s.handled i st ps).waiting.length = s.waiting.length := congrArg List.length (waiting_set_same h)
  have hblocks : (s.handled i st ps).oq.blocks.length = s.oq.blocks.length + ps.length := by simp [handled]
  unfold load
  omega

theorem load_handled_raised {st : Stream} (h : st.waits = true) (hs : (s.sas.get i).waits = false) :
    (s.handled i st []).load = s.load + 1 := by
  have hwait : (s.handled i st []).waiting.length = s.waiting.length + 1 := length_waiting_set_raised h hs
  have hblocks : (s.handled i st []).oq.blocks.length = s.oq.blocks.length := by simp [handled]
  unfold load
  omega

end State

/-! ### A slot -/

/-- The stream with a slot added to its buffer. -/
def Stream.withSlot (st : Stream) (slot : List Byte) (index : Nat) (flags : FlagSet) : Stream :=
  { st with
    buffer := st.buffer ++ [slot], first := if st.buffer = [] then index else st.first, last := index
    flags := st.flags.union flags }

/-- What the completion makes of a stream that has taken a slot, where `free` says that the queue has room. -/
def Stream.slotted (st : Stream) (d : Descriptor) (free : Bool) : Stream :=
  if st.buffer.length = d.framesPerBlock then if free then st.emptied .filling else { st with state := .waiting } else st

/-- The sealing of a stream that has taken a slot. -/
def Stream.slotSeals (st : Stream) (i : Fin 8) (d : Descriptor) (free : Bool) : List (Fin 8 × Stream × Bool) :=
  if st.buffer.length = d.framesPerBlock ∧ free = true then [(i, st, false)] else []

/-- The stream with its end mark, where `free` says that the queue has room. -/
def Stream.marked (st : Stream) (free : Bool) : Stream :=
  match st.state with
  | .off => st
  | .filling => if free then st.emptied .done else { st with state := .finalWait }
  | .waiting => { st with state := .finalWait }
  | .finalWait => st
  | .done => st

/-- The sealing of an end mark. -/
def Stream.markSeals (st : Stream) (i : Fin 8) (free : Bool) : List (Fin 8 × Stream × Bool) :=
  if st.state = .filling ∧ free = true then [(i, st, true)] else []

namespace State

variable {s : State} {i : Fin 8}

theorem slotFree_set {st : Stream} (h : st.waits = (s.sas.get i).waits) : { s with sas := s.sas.set i st }.slotFree = s.slotFree := by
  have hwait : { s with sas := s.sas.set i st }.waiting = s.waiting := waiting_set_same h
  unfold slotFree
  rw [hwait]

/-- A slot: the stream with the slot, its block sealed or waiting where the buffer is full. -/
theorem addSlot_eq (slot : List Byte) (n : Nat) (f : FlagSet) :
    let st := (s.sas.get i).withSlot slot n f
    let d := s.psc.pass.streams.get i
    s.addSlot i slot n f = s.handled i (st.slotted d s.slotFree) (st.slotSeals i d s.slotFree) := by
  intro st d
  have hfree : { s with sas := s.sas.set i st }.slotFree = s.slotFree := slotFree_set rfl
  have hadd : s.addSlot i slot n f =
      if st.buffer.length = d.framesPerBlock then { s with sas := s.sas.set i st }.completeBlock i
      else { s with sas := s.sas.set i st } := rfl
  rw [hadd]
  unfold Stream.slotted Stream.slotSeals
  by_cases hfull : st.buffer.length = d.framesPerBlock
  · rw [if_pos hfull, if_pos hfull, completeBlock, hfree]
    cases s.slotFree
    · simp [handled, PerStream.set_set]
    · simp [handled, sealStream, hfull, Stream.afterSeal_eq, blockOf, d, PerStream.set_set]
  · simp [hfull, handled]

/-- A slot that fills a buffer takes a slot of the queue, or a place for one. -/
theorem load_addSlot (hfill : (s.sas.get i).state = .filling) (slot : List Byte) (n : Nat) (f : FlagSet) :
    (s.addSlot i slot n f).load =
      s.load + if (s.sas.get i).buffer.length + 1 = (s.psc.pass.streams.get i).framesPerBlock then 1 else 0 := by
  have hnot : (s.sas.get i).waits = false := by simp [Stream.waits, hfill]
  have hlen : ((s.sas.get i).withSlot slot n f).buffer.length = (s.sas.get i).buffer.length + 1 := by simp [Stream.withSlot]
  rw [addSlot_eq]
  unfold Stream.slotted Stream.slotSeals
  simp only [hlen]
  by_cases hfull : (s.sas.get i).buffer.length + 1 = (s.psc.pass.streams.get i).framesPerBlock
  · cases s.slotFree
    · simpa [hfull] using load_handled_raised (st := { (s.sas.get i).withSlot slot n f with state := .waiting }) rfl hnot
    · simpa [hfull] using load_handled_same (s := s) (i := i) (st := ((s.sas.get i).withSlot slot n f).emptied .filling)
        (ps := [(i, (s.sas.get i).withSlot slot n f, false)]) hnot.symm
  · simpa [hfull] using load_handled_same (s := s) (i := i) (st := (s.sas.get i).withSlot slot n f) (ps := []) rfl

/-! ### An end mark -/

theorem endMark_eq (s : State) (i : Fin 8) :
    s.endMark i = s.handled i ((s.sas.get i).marked s.slotFree) ((s.sas.get i).markSeals i s.slotFree) := by
  unfold endMark Stream.marked Stream.markSeals
  cases hst : (s.sas.get i).state
  case filling =>
    cases s.slotFree
    · simp [handled]
    · simp [handled, sealStream, Stream.afterSeal_eq, blockOf]
  all_goals simp [handled]

theorem load_endMark (s : State) (i : Fin 8) : (s.endMark i).load = s.load + if (s.sas.get i).state = .filling then 1 else 0 := by
  rw [endMark_eq]
  unfold Stream.marked Stream.markSeals
  cases hst : (s.sas.get i).state
  case filling =>
    have hnot : (s.sas.get i).waits = false := by simp [Stream.waits, hst]
    cases s.slotFree
    · simpa using load_handled_raised (st := { s.sas.get i with state := .finalWait }) rfl hnot
    · simpa using load_handled_same (s := s) (i := i) (st := (s.sas.get i).emptied .done) (ps := [(i, s.sas.get i, true)]) hnot.symm
  case waiting =>
    simpa using load_handled_same (s := s) (i := i) (st := { s.sas.get i with state := .finalWait }) (ps := [])
      (by simp [Stream.waits, hst])
  all_goals simpa using load_handled_same (s := s) (i := i) (st := s.sas.get i) (ps := []) rfl

end State

end Sys2Proof.Machine
end
section
/-! PROOFS. The take of a sample group (O47). -/

namespace Sys2Proof.Machine

theorem State.closeStreamLoss_crg (s : State) (i : Fin 8) :
    (s.closeStreamLoss i).crg = { s.crg with streamLost := s.crg.streamLost.set i false } := by
  unfold State.closeStreamLoss
  split
  next => simp
  next h =>
    have hset : s.crg.streamLost.set i false = s.crg.streamLost := by
      rw [← Bool.eq_false_iff.mpr h]
      exact s.crg.streamLost.set_get i
    rw [hset]

theorem State.rawReady_eq_some_iff {s : State} {i : Fin 8} {ts : TrackSet} :
    s.rawReady i = some ts ↔
      s.rawTracks i = some ts ∧ (s.sas.get i).state = .filling ∧ (s.sas.get i).r < s.crg.w := by
  unfold State.rawReady
  split
  next ts' h =>
    rw [h]
    split
    next hready => simp [hready]
    next hready => simp only [hready, and_false]; simp
  next h => simp [h]

theorem State.rawTracks_eq_some_iff {s : State} {i : Fin 8} {ts : TrackSet} :
    s.rawTracks i = some ts ↔ (s.psc.pass.streams.get i).enabled = true ∧ (s.psc.pass.streams.get i).source = .raw ts := by
  unfold State.rawTracks
  split
  next hon =>
    split
    next h => simp [h]
    next h => simp [h, hon]
  next hon => simp [hon]

/-- The stream with the group at `r` taken. -/
def Stream.withGroup (st : Stream) (slot : List Byte) : Stream :=
  { st with
    buffer := st.buffer ++ [slot], first := if st.buffer = [] then st.r else st.first, last := st.r
    flags := { st.flags with lost := st.flags.lost || st.loss }, r := st.r + 1, loss := false }

theorem Stream.withGroup_eq (st : Stream) (slot : List Byte) :
    st.advance.withSlot slot st.r { FlagSet.empty with lost := st.loss } = st.withGroup slot := by
  have hflags : st.flags.union { FlagSet.empty with lost := st.loss } = { st.flags with lost := st.flags.lost || st.loss } := by
    simp [FlagSet.union, FlagSet.empty]
  exact congrArg (fun flags => { st.withGroup slot with flags := flags }) hflags

section Take

variable (s : State) (i : Fin 8) (ts : TrackSet)

/-- The state as the slot of the take finds it: the LOST span closed, the stream advanced. -/
def State.advanced (s : State) (i : Fin 8) : State :=
  { s.closeStreamLoss i with sas := s.sas.set i (s.sas.get i).advance }

/-- The stream after the group's slot, before its block is completed. -/
def State.grouped (s : State) (i : Fin 8) (ts : TrackSet) : Stream :=
  (s.sas.get i).withGroup (groupSlot (s.psc.pass.streams.get i).format ts s.crg (s.sas.get i).r)

/-- The state after the group's slot. -/
def State.slotTaken (s : State) (i : Fin 8) (ts : TrackSet) : State :=
  (s.advanced i).handled i ((s.grouped i ts).slotted (s.psc.pass.streams.get i) s.slotFree)
    ((s.grouped i ts).slotSeals i (s.psc.pass.streams.get i) s.slotFree)

theorem State.advanced_get : (s.advanced i).sas.get i = (s.sas.get i).advance :=
  PerStream.get_set_self ..

theorem State.advanced_load : (s.advanced i).load = s.load := by
  have hwait : (s.advanced i).waiting = s.waiting := waiting_set_same (st := (s.sas.get i).advance) rfl
  unfold State.load
  rw [hwait]
  simp [advanced]

theorem State.addSlot_advanced :
    (s.advanced i).addSlot i (groupSlot (s.psc.pass.streams.get i).format ts s.crg (s.sas.get i).r) (s.sas.get i).r
      { FlagSet.empty with lost := (s.sas.get i).loss } = s.slotTaken i ts := by
  have hpsc : (s.advanced i).psc = s.psc := by simp [advanced]
  have hfree : (s.advanced i).slotFree = s.slotFree := by rw [slotFree_eq, slotFree_eq, advanced_load]
  rw [addSlot_eq, hpsc, hfree, advanced_get, Stream.withGroup_eq]
  rfl

theorem State.takeGroup_eq :
    s.takeGroup i ts = if s.crg.e = some ((s.sas.get i).r + 1) then (s.slotTaken i ts).endMark i else s.slotTaken i ts := by
  have hsas : (s.closeStreamLoss i).sas = s.sas := by simp
  have hslot := s.addSlot_advanced i ts
  unfold State.advanced at hslot
  unfold State.takeGroup
  simp only [hsas, hslot]
  cases he : s.crg.e with
  | none => simp
  | some e =>
    by_cases h : (s.sas.get i).r + 1 = e
    · simp [h]
    · simp [h, Ne.symm h]

theorem State.slotTaken_get : (s.slotTaken i ts).sas.get i = (s.grouped i ts).slotted (s.psc.pass.streams.get i) s.slotFree :=
  PerStream.get_set_self ..

theorem State.slotTaken_load (hfill : (s.sas.get i).state = .filling) :
    (s.slotTaken i ts).load = s.load + if (s.sas.get i).buffer.length + 1 = (s.psc.pass.streams.get i).framesPerBlock then 1 else 0 := by
  have hpsc : (s.advanced i).psc = s.psc := by simp [advanced]
  have hfill' : ((s.advanced i).sas.get i).state = .filling := by rw [advanced_get]; exact hfill
  have hadd := (s.advanced i).load_addSlot hfill' (groupSlot (s.psc.pass.streams.get i).format ts s.crg (s.sas.get i).r) (s.sas.get i).r
    { FlagSet.empty with lost := (s.sas.get i).loss }
  rw [addSlot_advanced, advanced_load, hpsc, advanced_get] at hadd
  exact hadd

/-- What the take leaves of the units that neither a slot nor an end mark touches. -/
theorem State.takeGroup_crg : (s.takeGroup i ts).crg = { s.crg with streamLost := s.crg.streamLost.set i false } := by
  rw [takeGroup_eq]
  split
  · rw [(endMark_keeps _ i).2.2.2.1]
    exact s.closeStreamLoss_crg i
  · exact s.closeStreamLoss_crg i

theorem State.takeGroup_sas_of_ne {j : Fin 8} (h : j ≠ i) : (s.takeGroup i ts).sas.get j = s.sas.get j := by
  have hslot : (s.slotTaken i ts).sas.get j = s.sas.get j := by simp [slotTaken, handled, advanced, h]
  rw [takeGroup_eq]
  split
  · rw [endMark_eq]
    exact (PerStream.get_set_of_ne _ _ h).trans hslot
  · exact hslot

theorem State.takeGroup_oq_sealed (h : s.crg.e ≠ some ((s.sas.get i).r + 1)) :
    (s.takeGroup i ts).oq = { s.oq with
      blocks := s.oq.blocks ++ ((s.grouped i ts).slotSeals i (s.psc.pass.streams.get i) s.slotFree).map s.blockOf } := by
  rw [takeGroup_eq, if_neg h]
  have hadvanced : (s.advanced i).blockOf = s.blockOf := blockOf_congr (by simp [advanced]) (by simp [advanced])
  have hoq : (s.advanced i).oq = s.oq := by simp [advanced]
  rw [slotTaken, handled_oq, hadvanced, hoq]

theorem State.takeGroup_get (h : s.crg.e ≠ some ((s.sas.get i).r + 1)) :
    (s.takeGroup i ts).sas.get i = (s.grouped i ts).slotted (s.psc.pass.streams.get i) s.slotFree := by
  rw [takeGroup_eq, if_neg h, slotTaken_get]

/-- The last take seals after its own slot. -/
theorem State.takeGroup_last (h : s.crg.e = some ((s.sas.get i).r + 1)) :
    let d := s.psc.pass.streams.get i
    let st := (s.grouped i ts).slotted d s.slotFree
    let free := (s.slotTaken i ts).slotFree
    (s.takeGroup i ts).sas.get i = st.marked free ∧
      (s.takeGroup i ts).oq = { s.oq with
        blocks := s.oq.blocks ++ ((s.grouped i ts).slotSeals i d s.slotFree ++ st.markSeals i free).map s.blockOf } := by
  intro d st free
  rw [takeGroup_eq, if_pos h, endMark_eq, slotTaken_get]
  refine ⟨PerStream.get_set_self .., ?_⟩
  have hadvanced : (s.advanced i).blockOf = s.blockOf := blockOf_congr (by simp [advanced]) (by simp [advanced])
  have htaken : (s.slotTaken i ts).blockOf = s.blockOf :=
    blockOf_congr (by simp [slotTaken, handled, advanced]) (by simp [slotTaken, handled, advanced])
  have hoq : (s.advanced i).oq = s.oq := by simp [advanced]
  rw [handled_oq, htaken, slotTaken, handled_oq, hadvanced, hoq, List.map_append, List.append_assoc]
  rfl

end Take

section Slotted

variable (st : Stream) (i : Fin 8) (d : Descriptor) (free : Bool)

/-- Neither a completed block nor an end mark moves a stream's next index or its loss mark. -/
theorem Stream.slotted_reads : (st.slotted d free).r = st.r ∧ (st.slotted d free).loss = st.loss := by
  unfold slotted
  split
  · split <;> exact ⟨rfl, rfl⟩
  · exact ⟨rfl, rfl⟩

theorem Stream.marked_reads : (st.marked free).r = st.r ∧ (st.marked free).loss = st.loss := by
  unfold marked
  split
  case h_2 => split <;> exact ⟨rfl, rfl⟩
  all_goals exact ⟨rfl, rfl⟩

theorem Stream.slotted_of_notFull (h : st.buffer.length ≠ d.framesPerBlock) :
    st.slotted d free = st ∧ st.slotSeals i d free = [] := by
  simp [slotted, slotSeals, h]

theorem Stream.slotted_of_free (h : st.buffer.length = d.framesPerBlock) :
    st.slotted d true = st.emptied .filling ∧ st.slotSeals i d true = [(i, st, false)] := by
  simp [slotted, slotSeals, h]

theorem Stream.slotted_of_noSlot (h : st.buffer.length = d.framesPerBlock) :
    st.slotted d false = { st with state := .waiting } ∧ st.slotSeals i d false = [] := by
  simp [slotted, slotSeals, h]

theorem Stream.marked_of_filling (h : st.state = .filling) :
    (st.marked free = if free then st.emptied .done else { st with state := .finalWait }) ∧
      st.markSeals i free = if free then [(i, st, true)] else [] := by
  simp [marked, markSeals, h]

theorem Stream.marked_of_waiting (h : st.state = .waiting) :
    st.marked free = { st with state := .finalWait } ∧ st.markSeals i free = [] := by
  simp [marked, markSeals, h]

/-- A slot and then the end mark, with `used` slots of the queue taken or spoken for before them. -/
theorem Stream.slotted_marked (used : Nat) (h : st.state = .filling) :
    let whole := decide (st.buffer.length = d.framesPerBlock)
    let rest := if whole && decide (used < 64) then st.emptied .filling else st
    let sealed := (if whole && decide (used < 64) then [(i, st, false)] else []) ++
      if (if whole then used + 1 < 64 else used < 64) then [(i, rest, true)] else []
    let after := decide (used + (if st.buffer.length = d.framesPerBlock then 1 else 0) < 64)
    (st.slotted d (decide (used < 64))).marked after =
        (if (if whole then used + 1 < 64 else used < 64) then rest.emptied .done else { rest with state := .finalWait }) ∧
      st.slotSeals i d (decide (used < 64)) ++ (st.slotted d (decide (used < 64))).markSeals i after = sealed := by
  by_cases hfull : st.buffer.length = d.framesPerBlock
  · by_cases hused : used < 64
    · obtain ⟨hst, hseal⟩ := st.slotted_of_free i d hfull
      obtain ⟨hm, hs⟩ := (st.emptied .filling).marked_of_filling i (decide (used + 1 < 64)) rfl
      simp [hused, hst, hseal, hfull, hm, hs]
    · obtain ⟨hst, hseal⟩ := st.slotted_of_noSlot i d hfull
      obtain ⟨hm, hs⟩ := ({ st with state := .waiting } : Stream).marked_of_waiting i (decide (used + 1 < 64)) rfl
      have hnone : ¬used + 1 < 64 := fun h => hused (Nat.lt_of_succ_lt h)
      simp only [hnone, decide_false] at hm hs
      simp [hused, hst, hseal, hfull, hm, hs, hnone]
  · obtain ⟨hst, hseal⟩ := st.slotted_of_notFull i d (decide (used < 64)) hfull
    obtain ⟨hm, hs⟩ := st.marked_of_filling i (decide (used < 64)) h
    simp [hst, hseal, hfull, hm, hs]

end Slotted

/-- Settles O47: the take is a slot, and at the last group an end mark, at the stream alone. -/
theorem takeSampleGroupReadsTheRing : Obligations.TakeSampleGroupReadsTheRing := by
  intro s i d st
  have hexec : exec (.takeSampleGroup i) s = .next (match s.rawReady i with
    | some ts => (s.takeGroup i ts).testGates
    | none => s) := rfl
  refine ⟨fun hnot => ?_, ?_⟩
  · have hnone : s.rawReady i = none := by
      refine Option.eq_none_iff_forall_ne_some.mpr fun ts h => ?_
      obtain ⟨htracks, hfill, hbelow⟩ := State.rawReady_eq_some_iff.mp h
      obtain ⟨hon, hraw⟩ := State.rawTracks_eq_some_iff.mp htracks
      rcases hnot with hoff | ⟨x, l, r, hside⟩ | hstate | hw
      · exact absurd (hoff.symm.trans hon) (by decide)
      · exact absurd (hside.symm.trans hraw) (by simp)
      · exact hstate hfill
      · exact absurd hbelow (Nat.not_lt.mpr hw)
    rw [hexec, hnone]
  · intro ts hon hraw hfill hbelow buffer flags first
    have hready : s.rawReady i = some ts :=
      State.rawReady_eq_some_iff.mpr ⟨State.rawTracks_eq_some_iff.mpr ⟨hon, hraw⟩, hfill, hbelow⟩
    obtain ⟨hpending, hclock, hcfe, -, -, -, -, -, -, hrtr, hlvm, -, hsns, hpsc, hlink⟩ := s.takeGroup_keeps i ts
    have hreads : ((s.takeGroup i ts).sas.get i).r = st.r + 1 ∧ ((s.takeGroup i ts).sas.get i).loss = false := by
      have hslot := (s.grouped i ts).slotted_reads d s.slotFree
      rw [State.takeGroup_eq]
      split
      · rw [State.endMark_eq, State.handled, PerStream.get_set_self, State.slotTaken_get]
        have hmark := ((s.grouped i ts).slotted d s.slotFree).marked_reads (s.slotTaken i ts).slotFree
        exact ⟨hmark.1.trans hslot.1, hmark.2.trans hslot.2⟩
      · rw [State.slotTaken_get]
        exact hslot
    rw [hexec, hready]
    refine ⟨(s.takeGroup i ts).testGates, rfl, hreads.1, hreads.2, s.takeGroup_crg i ts, fun j h => s.takeGroup_sas_of_ne i ts h,
      hrtr, hlvm, hcfe, hsns, hpsc, hlink, hpending, hclock,
      fun hgoes => ⟨fun hpart => ?_, fun hfull hfree => ?_, fun hfull hnone => ?_⟩,
      fun hends => ?_⟩
    · obtain ⟨hst, hseal⟩ := (s.grouped i ts).slotted_of_notFull i d s.slotFree hpart
      refine ⟨(s.takeGroup_oq_sealed i ts hgoes).trans ?_, (s.takeGroup_get i ts hgoes).trans hst⟩
      rw [hseal, List.map_nil, List.append_nil]
    · obtain ⟨hst, hseal⟩ := (s.grouped i ts).slotted_of_free i d hfull
      have hslot : s.slotFree = true := decide_eq_true hfree
      have hget := s.takeGroup_get i ts hgoes
      have hoq := s.takeGroup_oq_sealed i ts hgoes
      rw [hslot, hst] at hget
      rw [hslot, hseal] at hoq
      have hcarries := sealBlock_carries i d (s.grouped i ts) false (s.crg.e.getD 0)
      unfold Block.carries at hcarries
      have hbuffer : (s.grouped i ts).buffer ≠ [] := List.append_ne_nil_of_right_ne_nil _ (List.cons_ne_nil _ _)
      simp only [hraw, hbuffer, if_false, Bool.false_eq_true] at hcarries
      obtain ⟨hstream, -, -, hflags, hfinal, -, -, hframes, hemit, -, hfirst, hlast, hdata, hcrc⟩ := hcarries
      exact ⟨sealBlock i d (s.grouped i ts) false (s.crg.e.getD 0), hoq, hstream, hdata, hframes.trans hfull, hemit, hfirst, hlast,
        hflags, hfinal, hcrc, congrArg Stream.state hget, congrArg Stream.buffer hget, congrArg Stream.emit hget,
        congrArg Stream.flags hget⟩
    · obtain ⟨hst, hseal⟩ := (s.grouped i ts).slotted_of_noSlot i d hfull
      have hslot : s.slotFree = false := decide_eq_false (Nat.not_lt.mpr hnone)
      have hget := s.takeGroup_get i ts hgoes
      have hoq := s.takeGroup_oq_sealed i ts hgoes
      rw [hslot, hst] at hget
      rw [hslot, hseal, List.map_nil, List.append_nil] at hoq
      exact ⟨hoq, hget⟩
    · intro taken used whole rest sealed
      obtain ⟨hget, hoq⟩ := s.takeGroup_last i ts hends
      have he : s.crg.e.getD 0 = st.r + 1 := by rw [hends]; rfl
      have hlen : buffer.length = st.buffer.length + 1 := by simp [buffer]
      have hfree : (s.slotTaken i ts).slotFree = decide (used + (if buffer.length = d.framesPerBlock then 1 else 0) < 64) := by
        rw [State.slotFree_eq, s.slotTaken_load i ts hfill, hlen]
        rfl
      have hmark : (taken.slotted d s.slotFree).marked (s.slotTaken i ts).slotFree =
            (if (if whole then used + 1 < 64 else used < 64) then rest.emptied .done else { rest with state := .finalWait }) ∧
          taken.slotSeals i d s.slotFree ++ (taken.slotted d s.slotFree).markSeals i (s.slotTaken i ts).slotFree = sealed := by
        rw [hfree]
        exact taken.slotted_marked i d used hfill
      refine ⟨⟨sealed.map s.blockOf, ?_, ?_⟩, hget.trans hmark.1⟩
      · exact hoq.trans (by rw [← hmark.2]; rfl)
      · rw [← he]
        exact s.carriedAs_map sealed

end Sys2Proof.Machine
end
section
/-! PROOFS. The frame event: what each restored stream and the output queue take of it (O44). -/

namespace Sys2Proof.Machine

/-! ### Streams handled one after another -/

section Fold

variable {op : State → Fin 8 → State} {out : Fin 8 → Bool → Stream} {seals : Fin 8 → Bool → List (Fin 8 × Stream × Bool)}
  {cost : Fin 8 → Bool}

/-- A slot of the queue is left for stream `j` when `load` slots were taken or spoken for before the streams of a list were handled in
ascending order. -/
def slotLeft (load : Nat) (cost : Fin 8 → Bool) (l : List (Fin 8)) (j : Fin 8) : Bool :=
  decide (load + (l.filter fun k => decide (k < j) && cost k).length < 64)

/-- What handling a stream makes of a state in which the stream still stands as in `s`. -/
def HandlesAs (s : State) (op : State → Fin 8 → State) (out : Fin 8 → Bool → Stream)
    (seals : Fin 8 → Bool → List (Fin 8 × Stream × Bool)) (cost : Fin 8 → Bool) (i : Fin 8) : Prop :=
  ∀ t : State, t.psc = s.psc → t.crg = s.crg → t.sas.get i = s.sas.get i →
    op t i = t.handled i (out i t.slotFree) (seals i t.slotFree) ∧ (op t i).load = t.load + if cost i then 1 else 0

theorem slotLeft_head {load : Nat} {a : Fin 8} {l : List (Fin 8)} (h : ∀ b ∈ l, a < b) :
    slotLeft load cost (a :: l) a = decide (load < 64) := by
  have hnone : ((a :: l).filter fun k => decide (k < a) && cost k) = [] := by
    refine List.filter_eq_nil_iff.mpr fun k hk => ?_
    rcases List.mem_cons.mp hk with rfl | hk
    · simp
    · simp [Fin.not_lt.mpr (Fin.le_of_lt (h k hk))]
  unfold slotLeft
  rw [hnone]
  rfl

theorem slotLeft_tail {load : Nat} {a j : Fin 8} {l : List (Fin 8)} (h : a < j) :
    slotLeft load cost (a :: l) j = slotLeft (load + if cost a then 1 else 0) cost l j := by
  unfold slotLeft
  cases ha : cost a
  · simp [h, ha]
  · simp [h, ha, Nat.add_assoc, Nat.add_comm 1]

/-- Streams handled in ascending order: each finds its own stream as it stood, and a slot where one is left. -/
theorem foldl_handled {l : List (Fin 8)} (hl : l.Pairwise (· < ·)) (s : State) (hop : ∀ i ∈ l, HandlesAs s op out seals cost i) :
    let free := slotLeft s.load cost l
    (l.foldl op s).load = s.load + (l.filter cost).length ∧
      (l.foldl op s).oq = { s.oq with blocks := s.oq.blocks ++ (l.flatMap fun j => seals j (free j)).map s.blockOf } ∧
      (∀ j ∈ l, (l.foldl op s).sas.get j = out j (free j)) ∧ ∀ j ∉ l, (l.foldl op s).sas.get j = s.sas.get j := by
  induction l generalizing s with
  | nil => simp
  | cons a l ih =>
    obtain ⟨hfirst, hl⟩ := List.pairwise_cons.mp hl
    obtain ⟨hstep, hload⟩ := hop a List.mem_cons_self s rfl rfl rfl
    have hpsc : (op s a).psc = s.psc := by rw [hstep]; rfl
    have hcrg : (op s a).crg = s.crg := by rw [hstep]; rfl
    have hget : ∀ j, j ≠ a → (op s a).sas.get j = s.sas.get j := fun j hj => by
      rw [hstep]
      exact PerStream.get_set_of_ne _ _ hj
    have hne : ∀ j ∈ l, j ≠ a := fun j hj => Fin.ne_of_gt (hfirst j hj)
    have hblock : (op s a).blockOf = s.blockOf := State.blockOf_congr hpsc (by rw [hcrg])
    have hhead : slotLeft s.load cost (a :: l) a = s.slotFree := slotLeft_head hfirst
    have htail : ∀ j ∈ l, slotLeft s.load cost (a :: l) j = slotLeft (op s a).load cost l j := fun j hj => by
      rw [hload, slotLeft_tail (hfirst j hj)]
    obtain ⟨hloads, hoq, hin, hout⟩ := ih hl (op s a) fun i hi t htpsc htcrg htget =>
      hop i (List.mem_cons_of_mem _ hi) t (htpsc.trans hpsc) (htcrg.trans hcrg) (htget.trans (hget i (hne i hi)))
    have hnot : a ∉ l := fun h => hne a h rfl
    refine ⟨?_, ?_, fun j hj => ?_, fun j hj => ?_⟩
    · rw [List.foldl_cons, hloads, hload]
      cases ha : cost a
      · simp [ha]
      · simp [ha, Nat.add_assoc, Nat.add_comm 1]
    · have hseals : (l.flatMap fun j => seals j (slotLeft (op s a).load cost l j)) =
          l.flatMap fun j => seals j (slotLeft s.load cost (a :: l) j) := by
        rw [List.flatMap_def, List.flatMap_def]
        exact congrArg List.flatten (List.map_congr_left fun j hj => by rw [htail j hj])
      rw [List.foldl_cons, hoq, hseals, hblock, hstep, State.handled_oq, List.flatMap_cons, hhead, List.map_append, List.append_assoc]
    · rcases List.mem_cons.mp hj with rfl | hj
      · rw [List.foldl_cons, hout _ hnot, hstep, hhead]
        exact PerStream.get_set_self ..
      · rw [List.foldl_cons, hin j hj, htail j hj]
    · rw [List.foldl_cons, hout j (List.not_mem_of_not_mem_cons hj), hget j (List.ne_of_not_mem_cons hj)]

end Fold

/-- A list that gives one thing or nothing at each element. -/
theorem flatMap_ite {α β : Type} (l : List α) (p : α → Bool) (g : α → β) :
    (l.flatMap fun a => if p a then [g a] else []) = (l.filter p).map g := by
  induction l with
  | nil => rfl
  | cons a l ih => cases h : p a <;> simp [h, ih]

theorem State.restoredStreams_ascending (s : State) (x : Side) : (s.restoredStreams x).Pairwise (· < ·) :=
  List.Pairwise.filter _ (by decide)

/-! ### The frame handed to the restored streams -/

namespace State

variable (s : State) (x : Side) (f : Frame)

/-- The slot a frame makes for stream `j`. -/
def slotOf (j : Fin 8) : List Byte :=
  match (s.psc.pass.streams.get j).source with
  | .side _ l r => frameSlot (s.psc.pass.streams.get j).format l r f.left f.right
  | .raw _ => []

/-- Stream `j` with the frame's slot. -/
def framed (j : Fin 8) : Stream :=
  (s.sas.get j).withSlot (s.slotOf f j) f.index f.flags

/-- The frame fills stream `j`'s buffer. -/
def fills (j : Fin 8) : Bool :=
  decide ((s.sas.get j).buffer.length + 1 = (s.psc.pass.streams.get j).framesPerBlock)

theorem giveFrame_eq {j : Fin 8} (h : s.restores x j = true) : s.giveFrame f j = s.addSlot j (s.slotOf f j) f.index f.flags := by
  unfold giveFrame slotOf
  unfold restores at h
  cases hsource : (s.psc.pass.streams.get j).source with
  | side y l r => simp only [hsource]
  | raw ts => simp [hsource] at h

theorem handlesAs_giveFrame (hroom : s.roomy x) {j : Fin 8} (hj : j ∈ s.restoredStreams x) :
    HandlesAs s (giveFrame f) (fun j free => (s.framed f j).slotted (s.psc.pass.streams.get j) free)
      (fun j free => (s.framed f j).slotSeals j (s.psc.pass.streams.get j) free) s.fills j := by
  intro t hpsc hcrg hget
  have hrestores : t.restores x j = true := by
    have := mem_restoredStreams.mp hj
    unfold restores at this ⊢
    rwa [hpsc]
  have hslot : t.slotOf f j = s.slotOf f j := by unfold slotOf; rw [hpsc]
  have hfill : (t.sas.get j).state = .filling := by
    rw [hget]
    exact (hroom j (mem_restoredStreams.mp hj)).1
  rw [t.giveFrame_eq x f hrestores, hslot]
  refine ⟨?_, ?_⟩
  · rw [addSlot_eq, hpsc, hget]
    rfl
  · rw [load_addSlot hfill, hget, hpsc]
    simp [fills]

/-- Stream `j` after the frame, with its block sealed or waiting where the frame fills it. -/
def given (j : Fin 8) : Stream :=
  (s.framed f j).slotted (s.psc.pass.streams.get j) (slotLeft s.load s.fills (s.restoredStreams x) j)

theorem framed_full (j : Fin 8) :
    (s.framed f j).buffer.length = (s.psc.pass.streams.get j).framesPerBlock ↔ s.fills j = true := by
  simp [framed, fills, Stream.withSlot]

/-- The frame handed to the restored streams. -/
theorem giveFrames_eq (hroom : s.roomy x) :
    let free := slotLeft s.load s.fills (s.restoredStreams x)
    let t := (s.restoredStreams x).foldl (giveFrame f) s
    t.load = s.load + ((s.restoredStreams x).filter s.fills).length ∧
      t.oq = { s.oq with blocks := s.oq.blocks ++
        (((s.restoredStreams x).filter fun j => s.fills j && free j).map fun j => (j, s.framed f j, false)).map s.blockOf } ∧
      (∀ j ∈ s.restoredStreams x, t.sas.get j = s.given x f j) ∧ ∀ j ∉ s.restoredStreams x, t.sas.get j = s.sas.get j := by
  intro free t
  obtain ⟨hload, hoq, hin, hout⟩ :=
    foldl_handled (s.restoredStreams_ascending x) s fun j hj => s.handlesAs_giveFrame x f hroom hj
  refine ⟨hload, ?_, hin, hout⟩
  rw [hoq, ← flatMap_ite]
  have hseals : ∀ j, (s.framed f j).slotSeals j (s.psc.pass.streams.get j) (free j) =
      if s.fills j && free j then [(j, s.framed f j, false)] else [] := fun j => by
    simp [Stream.slotSeals, framed_full]
  simp only [hseals, free]

/-! ### The end marks of the last frame -/

/-- Stream `j` is still filling. -/
def goesOn (j : Fin 8) : Bool :=
  decide ((s.sas.get j).state = .filling)

/-- The end marks handed to streams in ascending order. -/
theorem endMarks_eq {l : List (Fin 8)} (hl : l.Pairwise (· < ·)) :
    let free := slotLeft s.load s.goesOn l
    (s.endMarks l).oq = { s.oq with blocks := s.oq.blocks ++
        ((l.filter fun j => s.goesOn j && free j).map fun j => (j, s.sas.get j, true)).map s.blockOf } ∧
      (∀ j ∈ l, (s.endMarks l).sas.get j = (s.sas.get j).marked (free j)) ∧
      ∀ j ∉ l, (s.endMarks l).sas.get j = s.sas.get j := by
  intro free
  have hhandles : ∀ j ∈ l, HandlesAs s endMark (fun j free => (s.sas.get j).marked free)
      (fun j free => (s.sas.get j).markSeals j free) s.goesOn j := fun j _ t hpsc hcrg hget => by
    refine ⟨?_, ?_⟩
    · rw [endMark_eq, hget]
    · rw [load_endMark, hget]
      simp [goesOn]
  obtain ⟨-, hoq, hin, hout⟩ := foldl_handled hl s hhandles
  refine ⟨?_, hin, hout⟩
  have hseals : ∀ j, (s.sas.get j).markSeals j (free j) = if s.goesOn j && free j then [(j, s.sas.get j, true)] else [] := fun j => by
    simp [Stream.markSeals, goesOn]
  rw [← flatMap_ite, endMarks, hoq]
  simp only [← hseals, free]

end State

end Sys2Proof.Machine
end
section
/-! PROOFS. The frame event: SKEW cues, advance and finish of the resampler, and the whole of O44. -/

namespace Sys2Proof.Machine

/-! ### The SKEW cues of a frame -/

namespace State

/-- The state after the SKEW cues of side `x`'s next frame. -/
def skewed (s : State) (x : Side) : State :=
  s.takeCues (skewDue x (s.rsp.get x).index) (s.rsp.get x).index applySkewCue

variable (s : State) (x : Side)

/-- A SKEW cue of a side moves nothing of the side's resampler but its base skew. -/
theorem applySkewCue_get {t : State} {c : Cue} {i : Nat} (hdue : skewDue x i c = true) :
    (applySkewCue c t).rsp.get x = { t.rsp.get x with baseSkew := ((applySkewCue c t).rsp.get x).baseSkew } := by
  unfold skewDue at hdue
  unfold applySkewCue
  cases hbody : c.body with
  | skew y v =>
    obtain ⟨hy, -⟩ : y = x ∧ _ := by simpa [hbody] using hdue
    simp [hy]
  | source y v p => rfl
  | lift y v => rfl
  | gMax y v => rfl
  | mark ts => rfl

theorem skewed_get : (s.skewed x).rsp.get x = { s.rsp.get x with baseSkew := ((s.skewed x).rsp.get x).baseSkew } := by
  unfold skewed takeCues
  refine List.foldlRecOn (motive := fun t : State => t.rsp.get x = { s.rsp.get x with baseSkew := (t.rsp.get x).baseSkew })
    _ _ rfl fun t ht c hc => ?_
  have hstep := applySkewCue_get x (t := t) (List.mem_filter.mp hc).2
  rw [ht] at hstep
  exact hstep

theorem skewed_of_noCue (h : ∀ c ∈ s.psc.cues, skewDue x (s.rsp.get x).index c = false) : s.skewed x = s := by
  have hdue : s.psc.cues.filter (skewDue x (s.rsp.get x).index) = [] :=
    List.filter_eq_nil_iff.mpr fun c hc => by simp [h c hc]
  have hrest : (s.psc.cues.filter fun c => !skewDue x (s.rsp.get x).index c) = s.psc.cues :=
    List.filter_eq_self.mpr fun c hc => by simp [h c hc]
  unfold skewed takeCues
  rw [hdue, hrest]
  rfl

theorem skewed_sas : (s.skewed x).sas = s.sas := by simp [skewed]

theorem skewed_oq : (s.skewed x).oq = s.oq := by simp [skewed]

theorem skewed_crg : (s.skewed x).crg = s.crg := by simp [skewed]

theorem skewed_pass : (s.skewed x).psc.pass = s.psc.pass := by simp [skewed]

end State

/-! ### What depends on the pass, the streams and the queue alone -/

theorem State.load_congr {s t : State} (hsas : t.sas = s.sas) (hoq : t.oq = s.oq) : t.load = s.load := by
  unfold load waiting
  rw [hsas, hoq]

section Congr

variable {s t : State} (hpass : t.psc.pass = s.psc.pass) (hsas : t.sas = s.sas) (hoq : t.oq = s.oq)

include hpass

theorem State.restoredStreams_congr (x : Side) : t.restoredStreams x = s.restoredStreams x := by
  unfold restoredStreams
  refine List.filter_congr fun i _ => ?_
  unfold restores
  rw [hpass]

section Streams

include hsas

theorem State.fills_congr : t.fills = s.fills := by
  funext j
  unfold fills
  rw [hpass, hsas]

theorem State.framed_congr (f : Frame) : t.framed f = s.framed f := by
  funext j
  unfold framed slotOf
  rw [hpass, hsas]

theorem State.roomy_congr {x : Side} (h : s.roomy x) : t.roomy x := by
  unfold roomy restores
  rw [hpass, hsas]
  exact h

end Streams

include hsas hoq

theorem State.given_congr (x : Side) (f : Frame) : t.given x f = s.given x f := by
  funext j
  unfold given
  rw [framed_congr hpass hsas, load_congr hsas hoq, fills_congr hpass hsas, restoredStreams_congr hpass, hpass]

end Congr

/-- A block depends on the descriptors of the pass and on E. -/
theorem State.blockOf_of_pass {s t : State} (hpass : t.psc.pass = s.psc.pass) (he : t.crg.e = s.crg.e) : t.blockOf = s.blockOf := by
  unfold blockOf
  rw [hpass, he]

theorem slotLeft_congr {load : Nat} {c c' : Fin 8 → Bool} {l : List (Fin 8)} (h : ∀ k ∈ l, c k = c' k) :
    slotLeft load c l = slotLeft load c' l := by
  funext j
  unfold slotLeft
  rw [List.filter_congr fun k hk => by rw [h k hk]]

/-- The end marks on a state that agrees in pass, streams, queue and E. -/
theorem State.endMarks_of_same {s v : State} (hpass : v.psc.pass = s.psc.pass) (hsas : v.sas = s.sas) (hoq : v.oq = s.oq)
    (he : v.crg.e = s.crg.e) {l : List (Fin 8)} (hl : l.Pairwise (· < ·)) :
    let free := slotLeft s.load s.goesOn l
    (v.endMarks l).oq = { s.oq with blocks := s.oq.blocks ++
        ((l.filter fun j => s.goesOn j && free j).map fun j => (j, s.sas.get j, true)).map s.blockOf } ∧
      (∀ j ∈ l, (v.endMarks l).sas.get j = (s.sas.get j).marked (free j)) ∧
      ∀ j ∉ l, (v.endMarks l).sas.get j = s.sas.get j := by
  have hmarks := v.endMarks_eq hl
  have hgoes : v.goesOn = s.goesOn := by
    funext j
    unfold goesOn
    rw [hsas]
  rwa [load_congr hsas hoq, blockOf_of_pass hpass he, hgoes, hsas, hoq] at hmarks

/-! ### The advance -/

theorem State.closeSideLoss_crg (s : State) (x : Side) :
    (s.closeSideLoss x).crg = { s.crg with sideLost := s.crg.sideLost.set x false } := by
  unfold State.closeSideLoss
  split
  next => simp
  next h =>
    have hset : s.crg.sideLost.set x false = s.crg.sideLost := by
      rw [← Bool.eq_false_iff.mpr h]
      exact s.crg.sideLost.set_get x
    rw [hset]

/-- A resampler advanced by a step. -/
def Resampler.stepped (r : Resampler) (step e : Nat) : Resampler :=
  { r with position := r.advanced step e, frames := r.frames + 1, passed := some r.index, loss := false }

/-- The advance takes the resampler to E or beyond in DRAINING. -/
def Resampler.ends (r : Resampler) (step e : Nat) : Bool :=
  decide (r.state = .draining ∧ e ≤ r.advanced step e / 2 ^ 24)

namespace State

variable (s : State) (x : Side) (step : Nat)

/-- The state with side `x`'s resampler advanced and its LOST span closed. -/
def stepped : State :=
  { s with rsp := s.rsp.set x ((s.rsp.get x).stepped step (s.crg.e.getD 0)) }.closeSideLoss x

theorem advanceSide_eq : s.advanceSide x step =
    if (s.rsp.get x).ends step (s.crg.e.getD 0) then (s.stepped x step).finishResampler x else s.stepped x step := by
  unfold advanceSide Resampler.ends
  simp only [decide_eq_true_eq]
  rfl

theorem stepped_get : (s.stepped x step).rsp.get x = (s.rsp.get x).stepped step (s.crg.e.getD 0) := by
  simp [stepped]

theorem stepped_sas : (s.stepped x step).sas = s.sas := by simp [stepped]

theorem stepped_oq : (s.stepped x step).oq = s.oq := by simp [stepped]

theorem stepped_psc : (s.stepped x step).psc = s.psc := by simp [stepped]

theorem stepped_crg : (s.stepped x step).crg = { s.crg with sideLost := s.crg.sideLost.set x false } :=
  closeSideLoss_crg _ x

theorem advanceSide_crg : (s.advanceSide x step).crg = { s.crg with sideLost := s.crg.sideLost.set x false } := by
  rw [advanceSide_eq]
  split
  · rw [(finishResampler_keeps _ x).2.2.2.1, stepped_crg]
  · exact stepped_crg ..

theorem advanceSide_get : (s.advanceSide x step).rsp.get x =
    { (s.rsp.get x).stepped step (s.crg.e.getD 0) with
      state := if (s.rsp.get x).ends step (s.crg.e.getD 0) then .finished else (s.rsp.get x).state } := by
  rw [advanceSide_eq]
  split
  next h =>
    unfold finishResampler
    rw [(endMarks_keeps _ _).2.2.2.2.2.2.2.1, PerSide.get_set_self, stepped_get]
  next h =>
    rw [stepped_get]
    rfl

/-- The advance that ends the pass of a side gives its streams their end marks. -/
theorem advanceSide_streams :
    let l := s.restoredStreams x
    let free := slotLeft s.load s.goesOn l
    let ends := (s.rsp.get x).ends step (s.crg.e.getD 0)
    (s.advanceSide x step).oq = { s.oq with blocks := s.oq.blocks ++
        (if ends then (l.filter fun j => s.goesOn j && free j).map fun j => (j, s.sas.get j, true) else []).map s.blockOf } ∧
      (∀ j ∈ l, (s.advanceSide x step).sas.get j = if ends then (s.sas.get j).marked (free j) else s.sas.get j) ∧
      ∀ j ∉ l, (s.advanceSide x step).sas.get j = s.sas.get j := by
  intro l free ends
  have hpass : (s.stepped x step).psc.pass = s.psc.pass := by rw [stepped_psc]
  rw [advanceSide_eq]
  by_cases h : ends = true
  · rw [if_pos h, if_pos h, finishResampler, restoredStreams_congr hpass]
    obtain ⟨hoq, hin, hout⟩ := endMarks_of_same (v := { s.stepped x step with
        rsp := (s.stepped x step).rsp.set x { (s.stepped x step).rsp.get x with state := .finished } })
      hpass (s.stepped_sas x step) (s.stepped_oq x step) (by rw [stepped_crg]) (s.restoredStreams_ascending x)
    refine ⟨hoq, fun j hj => ?_, hout⟩
    rw [if_pos h]
    exact hin j hj
  · rw [if_neg h, if_neg h, stepped_oq, stepped_sas]
    refine ⟨by simp, fun j _ => ?_, fun j _ => rfl⟩
    rw [if_neg h]

end State

end Sys2Proof.Machine
end
section
/-! PROOFS. The frame event as a whole (O44). -/

namespace Sys2Proof.Machine

namespace State

variable (s : State) (x : Side)

/-- A frame depends on the side's resampler, the coefficients, the capture rings and the level monitors. -/
theorem frameOf_congr {s t : State} {x : Side} (e : SpeedEntry) (hrsp : t.rsp.get x = s.rsp.get x)
    (hco : t.psc.coefficients = s.psc.coefficients) (hcrg : t.crg = s.crg) (hlvm : t.lvm = s.lvm) : t.frameOf x e = s.frameOf x e := by
  have hlift : t.liftAt = s.liftAt := by
    funext k n
    unfold liftAt liftAt.decided
    rw [hcrg, hlvm]
  have hinput : t.input = s.input := by
    funext k n
    unfold input
    rw [hcrg, hlift]
  unfold frameOf channel classes
  rw [hrsp, hco, hinput, hlift]

/-- The frame that side `x` produces from the entry `e`. -/
def nextFrame (e : SpeedEntry) : Frame :=
  (s.skewed x).frameOf x e

/-- The state after the restored streams have taken the frame, before the advance. -/
def handedOut (e : SpeedEntry) : State :=
  ((s.skewed x).restoredStreams x).foldl (giveFrame (s.nextFrame x e)) (s.skewed x)

variable {x} {e : SpeedEntry} {a : Nat}

theorem frame_eq (h : s.frameEntry x = some (e, a)) : s.frame x = (s.handedOut x e).advanceSide x a := by
  unfold frame
  rw [h]
  rfl

theorem handedOut_keeps : (s.handedOut x e).psc = (s.skewed x).psc ∧ (s.handedOut x e).rsp = (s.skewed x).rsp ∧
    (s.handedOut x e).crg = s.crg := by
  have hkeeps := (s.skewed x).giveFrames_keeps (s.nextFrame x e) ((s.skewed x).restoredStreams x)
  exact ⟨hkeeps.2.2.2.2.2.2.2.2.2.1, hkeeps.2.2.2.2.2.2.2.1, hkeeps.2.2.2.1.trans (s.skewed_crg x)⟩

/-- What the restored streams take, in terms of the state before the frame event. -/
theorem handedOut_streams (hroom : s.roomy x) :
    let l := s.restoredStreams x
    let f := s.nextFrame x e
    let free := slotLeft s.load s.fills l
    (s.handedOut x e).load = s.load + (l.filter s.fills).length ∧
      (s.handedOut x e).oq = { s.oq with blocks := s.oq.blocks ++
        ((l.filter fun j => s.fills j && free j).map fun j => (j, s.framed f j, false)).map s.blockOf } ∧
      (∀ j ∈ l, (s.handedOut x e).sas.get j = s.given x f j) ∧ ∀ j ∉ l, (s.handedOut x e).sas.get j = s.sas.get j := by
  have hpass := s.skewed_pass x
  have hsas := s.skewed_sas x
  have hoq := s.skewed_oq x
  have hgiven := (s.skewed x).giveFrames_eq x (s.nextFrame x e) (roomy_congr hpass hsas hroom)
  rw [fills_congr hpass hsas, load_congr hsas hoq, framed_congr hpass hsas, given_congr hpass hsas hoq,
    blockOf_of_pass hpass (by rw [skewed_crg]), hsas, hoq] at hgiven
  intro l
  have hl : l = (s.skewed x).restoredStreams x := (restoredStreams_congr hpass x).symm
  rw [hl]
  exact hgiven

/-- Stream `j` still fills after the frame. -/
def goesOnAfter (f : Frame) (j : Fin 8) : Bool :=
  decide ((s.given x f j).state = .filling)

theorem frame_streams (hentry : s.frameEntry x = some (e, a)) (hroom : s.roomy x) :
    let l := s.restoredStreams x
    let f := s.nextFrame x e
    let free := slotLeft s.load s.fills l
    let goes := s.goesOnAfter (x := x) f
    let last := slotLeft (s.load + (l.filter s.fills).length) goes l
    let ends := (s.rsp.get x).ends a (s.crg.e.getD 0)
    (s.frame x).oq = { s.oq with blocks := s.oq.blocks ++
        (((l.filter fun j => s.fills j && free j).map fun j => (j, s.framed f j, false)) ++
          if ends then (l.filter fun j => goes j && last j).map fun j => (j, s.given x f j, true) else []).map s.blockOf } ∧
      (∀ j ∈ l, (s.frame x).sas.get j = if ends then (s.given x f j).marked (last j) else s.given x f j) ∧
      ∀ j ∉ l, (s.frame x).sas.get j = s.sas.get j := by
  intro l f free goes last ends
  obtain ⟨hpsc, hrsp, hcrg⟩ := s.handedOut_keeps (x := x) (e := e)
  obtain ⟨hload, hoq, hin, hout⟩ := s.handedOut_streams (e := e) hroom
  have hpass : (s.handedOut x e).psc.pass = s.psc.pass := by rw [hpsc, skewed_pass]
  have hends : ((s.handedOut x e).rsp.get x).ends a ((s.handedOut x e).crg.e.getD 0) = ends := by
    rw [hrsp, hcrg, skewed_get]
    rfl
  have hgoes : ∀ j ∈ l, (s.handedOut x e).goesOn j = goes j := fun j hj => by
    unfold goesOn
    rw [hin j hj]
    rfl
  obtain ⟨hmarkoq, hmarkin, hmarkout⟩ := (s.handedOut x e).advanceSide_streams x a
  rw [restoredStreams_congr hpass, hload, slotLeft_congr hgoes, hends] at hmarkoq hmarkin
  rw [restoredStreams_congr hpass] at hmarkout
  rw [frame_eq s hentry]
  refine ⟨?_, fun j hj => ?_, fun j hj => (hmarkout j hj).trans (hout j hj)⟩
  · have hfinals : ((l.filter fun j => (s.handedOut x e).goesOn j && last j).map fun j => (j, (s.handedOut x e).sas.get j, true)) =
        (l.filter fun j => goes j && last j).map fun j => (j, s.given x f j, true) := by
      rw [List.filter_congr fun j hj => by rw [hgoes j hj]]
      exact List.map_congr_left fun j hj => by rw [hin j ((List.mem_filter.mp hj).1)]
    rw [hmarkoq, hfinals, hoq, blockOf_of_pass hpass (by rw [hcrg]), List.map_append, List.append_assoc]
  · rw [hmarkin j hj, hin j hj]

end State

/-! ### The gate and the frame event's other effects -/

namespace State

/-- The side's position admits a frame: the input is written, or E is ahead. -/
def ahead (s : State) (x : Side) : Prop :=
  ((s.rsp.get x).state = .active ∧ (s.rsp.get x).index + 16 < s.crg.w) ∨
    ((s.rsp.get x).state = .draining ∧ (s.rsp.get x).index < s.crg.e.getD 0)

theorem gateOpen_iff {s : State} {x : Side} : s.gateOpen x = true ↔
    s.frameEntry x ≠ none ∧ (s.rsp.get x).index + 16 < s.sideSettled x ∧ s.roomy x ∧ s.ahead x := by
  unfold gateOpen ahead
  rw [Bool.and_eq_true, decide_eq_true_eq, gateCause_eq_none_iff]
  cases (s.rsp.get x).state <;> simp [and_assoc]

variable (s : State) {x : Side} {e : SpeedEntry} {a : Nat}

theorem frame_get (h : s.frameEntry x = some (e, a)) : (s.frame x).rsp.get x =
    { (s.rsp.get x).stepped a (s.crg.e.getD 0) with
      baseSkew := ((s.frame x).rsp.get x).baseSkew
      state := if (s.rsp.get x).ends a (s.crg.e.getD 0) then .finished else (s.rsp.get x).state } := by
  obtain ⟨-, hrsp, hcrg⟩ := s.handedOut_keeps (x := x) (e := e)
  have hbase : ((s.frame x).rsp.get x).baseSkew = ((s.skewed x).rsp.get x).baseSkew := frame_baseSkew ..
  rw [hbase, frame_eq s h, advanceSide_get, hrsp, hcrg, skewed_get]
  rfl

theorem frame_crg (h : s.frameEntry x = some (e, a)) : (s.frame x).crg = { s.crg with sideLost := s.crg.sideLost.set x false } := by
  rw [frame_eq s h, advanceSide_crg, s.handedOut_keeps.2.2]

theorem frame_psc (h : s.frameEntry x = some (e, a)) : (s.frame x).psc = (s.skewed x).psc := by
  rw [frame_eq s h, ← (s.handedOut_keeps (x := x) (e := e)).1]
  simp

theorem nextFrame_eq (x : Side) (e : SpeedEntry) : s.nextFrame x e = frameOf
    { s with rsp := s.rsp.set x { s.rsp.get x with baseSkew := ((s.frame x).rsp.get x).baseSkew } } x e := by
  have hbase : ((s.frame x).rsp.get x).baseSkew = ((s.skewed x).rsp.get x).baseSkew := frame_baseSkew ..
  refine frameOf_congr e ?_ (by simp [skewed]) (s.skewed_crg x) (by simp [skewed])
  rw [hbase, PerSide.get_set_self]
  exact s.skewed_get x

end State

theorem frameFlags_eq (l : LockState) (classes : List TickClass) (loss : Bool) :
    frameFlags l classes loss = ⟨decide (l ≠ .locked ∧ l ≠ .hold), decide (l = .hold), decide (TickClass.lifted ∈ classes),
      decide (TickClass.limited ∈ classes), loss⟩ := by
  have hany : ∀ c, (classes.any fun d => decide (d = c)) = decide (c ∈ classes) := fun c => by
    rw [Bool.eq_iff_iff, List.any_eq_true, decide_eq_true_eq]
    simp
  unfold frameFlags lockFlags
  rw [hany, hany]
  cases l <;> rfl

theorem frameSkew_eq (base trim : Int) : frameSkew base trim = max (-128) (min 127 (base + trim)) :=
  clampInt_eq_max_min (by decide) _

/-- The classes of a frame's 32 inputs, its left channel at `i` and its right channel at `iR`. -/
def State.inputClasses (s : State) (x : Side) (i : Nat) (iR : Int) : List TickClass :=
  ((List.finRange 16).map fun k => (s.liftAt x.left ((i : Int) - 7 + k.val)).2) ++
    (List.finRange 16).map fun k => (s.liftAt x.right (iR - 7 + k.val)).2

theorem State.frameOf_index {t : State} {x : Side} {r : Resampler} (e : SpeedEntry) (hrsp : t.rsp.get x = r) :
    (t.frameOf x e).index = r.position / 2 ^ 24 := by
  rw [← hrsp]
  rfl

theorem State.frameOf_flags {s t : State} {x : Side} {r : Resampler} (e : SpeedEntry) (hrsp : t.rsp.get x = r) (hcrg : t.crg = s.crg)
    (hlvm : t.lvm = s.lvm) : (t.frameOf x e).flags = frameFlags e.lock
      (s.inputClasses x (r.position / 2 ^ 24)
        (((r.position : Int) + max (-128) (min 127 (r.baseSkew + e.trim)) * 2 ^ 20) / 2 ^ 24)) r.loss := by
  have hlift : t.liftAt = s.liftAt := by
    funext k n
    unfold liftAt liftAt.decided
    rw [hcrg, hlvm]
  unfold frameOf classes inputClasses
  simp only [hrsp, hlift, rightPosition, frameSkew_eq, tapIndex, Resampler.index, Config.stepUnit, taps]
  rfl

/-- The stream after a frame, by whether the frame fills its buffer and whether a slot is left. -/
theorem State.given_eq (s : State) (x : Side) (f : Frame) (j : Fin 8) :
    let free := slotLeft s.load s.fills (s.restoredStreams x) j
    s.given x f j = if s.fills j then (if free then (s.framed f j).emptied .filling else { s.framed f j with state := .waiting })
      else s.framed f j := by
  intro free
  unfold State.given Stream.slotted
  simp only [s.framed_full, free]

theorem State.goesOnAfter_eq (s : State) {x : Side} (f : Frame) (hroom : s.roomy x) {j : Fin 8} (hj : j ∈ s.restoredStreams x) :
    s.goesOnAfter (x := x) f j = !(s.fills j && !slotLeft s.load s.fills (s.restoredStreams x) j) := by
  have hfill : (s.framed f j).state = .filling := (hroom j (State.mem_restoredStreams.mp hj)).1
  unfold goesOnAfter
  rw [given_eq]
  cases s.fills j
  · simp [hfill]
  · cases slotLeft s.load s.fills (s.restoredStreams x) j <;> simp [Stream.emptied]

/-- An end mark after the frame, by whether the stream still fills and whether a slot is left. -/
theorem State.given_marked (s : State) {x : Side} (f : Frame) (hroom : s.roomy x) {j : Fin 8} (hj : j ∈ s.restoredStreams x)
    (free : Bool) : (s.given x f j).marked free =
      if s.goesOnAfter (x := x) f j && free then (s.given x f j).emptied .done else { s.given x f j with state := .finalWait } := by
  cases hgoes : s.goesOnAfter (x := x) f j with
  | true =>
    rw [((s.given x f j).marked_of_filling j free (of_decide_eq_true hgoes)).1]
    rfl
  | false =>
    have hwaiting : (s.given x f j).state = .waiting := by
      rw [goesOnAfter_eq s f hroom hj] at hgoes
      obtain ⟨hfull, hnone⟩ : s.fills j = true ∧ slotLeft s.load s.fills (s.restoredStreams x) j = false := by simpa using hgoes
      rw [given_eq, hfull, hnone]
      rfl
    rw [((s.given x f j).marked_of_waiting j free hwaiting).1]
    rfl

theorem ite_swap_bool {α : Type} (b : Bool) (p q : α) : (if b then p else q) = if !b then q else p := by
  cases b <;> rfl

/-- Settles O44: the gate's conditions, and the frame event with its slots, sealings and end marks. -/
theorem produceFrameNeedsTheGate : Obligations.ProduceFrameNeedsTheGate := by
  intro s x r i streams slots window entry settled room ahead
  have hexec : exec (.produceFrame x) s = .next (if s.gateOpen x then (s.frame x).testGates else s.testGates) := rfl
  have hsettled : i + 16 < s.sideSettled x ↔ settled := Nat.lt_min
  refine ⟨fun hshut => ?_, fun e a he ha hs hroom hahead => ?_⟩
  · have hclosed : ¬s.gateOpen x = true := fun hopen => by
      obtain ⟨hentry, hs, hroom, hahead⟩ := State.gateOpen_iff.mp hopen
      rcases hshut with hno | hno | hno | hno
      · exact hentry (State.frameEntry_eq_none_iff.mpr hno)
      · exact hno (hsettled.mp hs)
      · exact hno hroom
      · exact hno hahead
    rw [hexec, if_neg hclosed]
  · have hentry : s.frameEntry x = some (e, a) := State.frameEntry_eq_some_iff.mpr ⟨he, ha⟩
    have hopen : s.gateOpen x = true :=
      State.gateOpen_iff.mpr ⟨fun h => Option.some_ne_none _ (hentry.symm.trans h), hsettled.mpr hs, hroom, hahead⟩
    refine ⟨(s.frame x).testGates, by rw [hexec, if_pos hopen], ?_⟩
    intro position ends base iR read f restored taken full used free given goesOn marked last blocks finals
    have hwait := State.testGates_get_rsp (s.frame x) x
    have hbase : base = ((s.frame x).rsp.get x).baseSkew := by
      have hskew := congrArg Resampler.baseSkew hwait
      exact hskew
    have hf : s.nextFrame x e = f := (s.nextFrame_eq x e).trans (by rw [← hbase])
    have hget := s.frame_get hentry
    have hcrg := s.frame_crg hentry
    have hpsc := s.frame_psc hentry
    obtain ⟨hoq, hin, hout⟩ := s.frame_streams hentry hroom
    obtain ⟨hpending, hclock, hcfe, -, -, -, -, -, -, hrtr, hlvm, hsns, -, -, -, -, -, -, -, -, hlink⟩ := s.frame_keeps x
    have hflags : f.flags = frameFlags e.lock read r.loss := by
      exact State.frameOf_flags (r := { r with baseSkew := base }) e (PerSide.get_set_self ..) rfl rfl
    have hindex : f.index = i :=
      State.frameOf_index (r := { r with baseSkew := base }) e (PerSide.get_set_self ..)
    clear_value base f
    have htaken : s.framed f = taken := by
      funext j
      have hframed : s.framed f j = (s.sas.get j).withSlot (s.slotOf f j) i f.flags := by rw [State.framed, hindex]
      exact hframed
    have hgiven : s.given x f = given := by
      funext j
      rw [State.given_eq, htaken]
      rfl
    have hrestored : s.restoredStreams x = restored := rfl
    have hgoes : ∀ j ∈ restored, s.goesOnAfter (x := x) f j = goesOn j := fun j hj => s.goesOnAfter_eq f hroom hj
    have hlast : ∀ j ∈ restored, (s.goesOnAfter (x := x) f j && slotLeft (s.load + (restored.filter s.fills).length)
        (s.goesOnAfter (x := x) f) restored j) = last j := fun j hj => by
      rw [hgoes j hj, slotLeft_congr hgoes]
      rfl
    refine ⟨?_, fun hnone => ?_, hflags.trans (frameFlags_eq ..), fun j hj => ?_, ?_, fun j hj => ?_, hcrg, hrtr, hlvm, hcfe, hsns, hlink,
      hpending, hclock⟩
    · rw [hwait, hget, ← hbase]
      rfl
    · have hsame : s.skewed x = s := s.skewed_of_noCue x hnone
      have hskew : ((s.frame x).rsp.get x).baseSkew = ((s.skewed x).rsp.get x).baseSkew := State.frame_baseSkew ..
      rw [hsame] at hpsc hskew
      exact ⟨hbase.trans hskew, hpsc⟩
    · have hj' : j ∈ restored := State.mem_restoredStreams.mpr hj
      have hstream := hin j hj'
      rw [hf, State.given_marked s f hroom hj', hrestored, hlast j hj', hgiven] at hstream
      exact hstream.trans (ite_swap_bool ..)
    · rw [hf, hgiven, htaken, hrestored, List.filter_congr hlast] at hoq
      exact ⟨_, hoq, s.carriedAs_map _⟩
    · exact hout j (mt State.mem_restoredStreams.mp (by rw [hj]; exact Bool.false_ne_true))

end Sys2Proof.Machine
end
section
/-! PROOFS. The ring of tick records and its decisions (O42). -/

namespace Sys2Proof.Machine

/-! ### A store read by its slots -/

theorem mem_iff_slotFind {α : Type} {l : List (Nat × α)} (h : slotsRise l = true) {k : Nat} {v : α} :
    (k, v) ∈ l ↔ slotFind l k = some v := by
  induction l with
  | nil => simp [slotFind]
  | cons c l ih =>
    obtain ⟨i, w⟩ := c
    obtain ⟨habove, hl⟩ := (slotsRise_cons i w l).mp h
    by_cases hk : i = k
    · subst hk
      have hnot : (i, v) ∉ l := fun hmem => Nat.lt_irrefl i (habove _ hmem)
      simp [slotFind, hnot, eq_comm]
    · simp [slotFind, hk, Ne.symm hk, ih hl]

/-! ### Deciding records -/

/-- The record of tick `t`, where it stands in its slot, decided by `d`. -/
def decideWith (d : TickRecord → TickRecord) (l : List (Nat × TickRecord)) (t : Nat) : List (Nat × TickRecord) :=
  match tickRecord l t with
  | some r => putRecord l (d r)
  | none => l

/-- The records of several ticks decided by `d`. -/
def decideAll (d : TickRecord → TickRecord) (ts : List Nat) (l : List (Nat × TickRecord)) : List (Nat × TickRecord) :=
  ts.foldl (decideWith d) l

/-- Every record stands in its slot. -/
def atHome (l : List (Nat × TickRecord)) : Prop :=
  ∀ k r, slotFind l k = some r → k = r.tick % Config.tickSlots

/-- A decision: it gives a membership, a class and a gain, and leaves the rest; a decision taken again changes nothing. -/
structure Decides (d : TickRecord → TickRecord) : Prop where
  kept : ∀ r, ((d r).tick, (d r).envelope, (d r).lift, (d r).gMax) = (r.tick, r.envelope, r.lift, r.gMax)
  again : ∀ r, d (d r) = d r
  decided : ∀ r, (d r).membership ≠ .pending ∧ (d r).tickClass.isSome = true ∧ (d r).gain.isSome = true

theorem decides_outside : Decides .outside where
  kept _ := rfl
  again _ := rfl
  decided _ := ⟨by simp [TickRecord.outside], rfl, rfl⟩

theorem decides_inside (level : Nat) : Decides (·.inside level) where
  kept _ := rfl
  again _ := rfl
  decided _ := ⟨by simp [TickRecord.inside], rfl, rfl⟩

theorem Decides.tick {d : TickRecord → TickRecord} (hd : Decides d) (r : TickRecord) : (d r).tick = r.tick :=
  congrArg Prod.fst (hd.kept r)

theorem tickRecord_eq_some_iff {l : List (Nat × TickRecord)} {t : Nat} {r : TickRecord} :
    tickRecord l t = some r ↔ slotFind l (t % Config.tickSlots) = some r ∧ r.tick = t := by
  unfold tickRecord
  split
  next r' h =>
    rw [h]
    split
    next ht =>
      constructor
      · rintro ⟨⟩
        exact ⟨rfl, ht⟩
      · rintro ⟨⟨⟩, -⟩
        rfl
    next ht =>
      constructor
      · rintro ⟨⟩
      · rintro ⟨⟨⟩, hrt⟩
        exact absurd hrt ht
  next h => simp [h]

/-- A record read by its tick is one read by its slot. -/
theorem tickRecord_eq_filter (l : List (Nat × TickRecord)) (t : Nat) :
    tickRecord l t = (slotFind l (t % Config.tickSlots)).filter fun r => decide (r.tick = t) := by
  ext r
  rw [tickRecord_eq_some_iff, Option.filter_eq_some_iff, decide_eq_true_eq]

theorem slotsRise_decideAll {d : TickRecord → TickRecord} {l : List (Nat × TickRecord)} (ts : List Nat) (hl : slotsRise l = true) :
    slotsRise (decideAll d ts l) = true := by
  refine List.foldlRecOn (motive := fun l => slotsRise l = true) _ _ hl fun l hl t _ => ?_
  unfold decideWith
  split
  · exact slotsRise_slotPut hl ..
  · exact hl

section Decide

variable {d : TickRecord → TickRecord} (hd : Decides d) {l : List (Nat × TickRecord)}

include hd

theorem slotFind_decideWith (hl : atHome l) (t k : Nat) :
    slotFind (decideWith d l t) k = (slotFind l k).map fun r => if r.tick = t then d r else r := by
  unfold decideWith
  cases h : tickRecord l t with
  | some r =>
    obtain ⟨hfind, ht⟩ := tickRecord_eq_some_iff.mp h
    have htick : (d r).tick = t := (hd.tick r).trans ht
    by_cases hk : k = t % Config.tickSlots
    · rw [hk, hfind]
      simp [putRecord, htick, ht]
    · have hother : ∀ q, slotFind l k = some q → q.tick ≠ t := fun q hq hqt => hk (by rw [hl k q hq, hqt])
      have hsame : slotFind (putRecord l (d r)) k = slotFind l k := slotFind_slotPut_of_ne _ _ (by rw [htick]; exact hk)
      simp only [hsame]
      cases hq : slotFind l k with
      | none => rfl
      | some q => simp [hother q hq]
  | none =>
    have hother : ∀ q, slotFind l k = some q → q.tick ≠ t := fun q hq hqt => by
      have hfind := hq
      rw [hl k q hq, hqt] at hfind
      have hsome := tickRecord_eq_some_iff.mpr ⟨hfind, hqt⟩
      rw [h] at hsome
      cases hsome
    cases hq : slotFind l k with
    | none => rfl
    | some q => simp [hother q hq]

theorem atHome_decideWith (hl : atHome l) (t : Nat) : atHome (decideWith d l t) := by
  intro k r hr
  rw [slotFind_decideWith hd hl] at hr
  obtain ⟨q, hq, rfl⟩ := Option.map_eq_some_iff.mp hr
  have hhome := hl k q hq
  split
  · rwa [hd.tick]
  · exact hhome

/-- Several decisions: every record of a tick among them is decided, the others stand. -/
theorem slotFind_decideAll (ts : List Nat) (hl : atHome l) (k : Nat) :
    slotFind (decideAll d ts l) k = (slotFind l k).map fun r => if r.tick ∈ ts then d r else r := by
  induction ts generalizing l with
  | nil => simp [decideAll]
  | cons t ts ih =>
    have hstep := ih (atHome_decideWith hd hl t)
    rw [slotFind_decideWith hd hl, Option.map_map] at hstep
    refine hstep.trans (congrArg (Option.map · _) (funext fun r => ?_))
    by_cases ht : r.tick = t
    · by_cases hmem : t ∈ ts <;> simp [ht, hd.tick, hd.again, hmem]
    · simp [ht]

theorem tickRecord_decideAll (ts : List Nat) (hl : atHome l) (t : Nat) :
    tickRecord (decideAll d ts l) t = (tickRecord l t).map fun r => if r.tick ∈ ts then d r else r := by
  rw [tickRecord_eq_filter, tickRecord_eq_filter, slotFind_decideAll hd ts hl]
  cases slotFind l (t % Config.tickSlots) with
  | none => rfl
  | some r =>
    have htick : (if r.tick ∈ ts then d r else r).tick = r.tick := by
      split
      · exact hd.tick r
      · rfl
    by_cases ht : r.tick = t
    · subst ht
      simp [Option.filter, htick]
    · simp [Option.filter, htick, ht]

/-- A decision leaves tick, envelope, lift and Gmax of every record. -/
theorem tickRecord_decideAll_kept (ts : List Nat) (hl : atHome l) (t : Nat) :
    (tickRecord (decideAll d ts l) t).map (fun r => (r.tick, r.envelope, r.lift, r.gMax)) =
      (tickRecord l t).map fun r => (r.tick, r.envelope, r.lift, r.gMax) := by
  rw [tickRecord_decideAll hd ts hl, Option.map_map]
  refine congrArg (Option.map · _) (funext fun r => ?_)
  simp only [Function.comp]
  split
  · exact hd.kept r
  · rfl

end Decide

end Sys2Proof.Machine
end
section
/-! PROOFS. The detector at a tick's completion and at the end of capture (O42). -/

namespace Sys2Proof.Machine

namespace Monitor

/-! ### Ticks decided -/

theorem decideOutside_eq (m : Monitor) (t : Nat) : m.decideOutside t = { m with records := decideWith .outside m.records t } := by
  unfold decideOutside decideWith
  cases tickRecord m.records t <;> rfl

theorem foldl_decideOutside (ts : List Nat) (m : Monitor) :
    ts.foldl .decideOutside m = { m with records := decideAll .outside ts m.records } := by
  induction ts generalizing m with
  | nil => rfl
  | cons t ts ih =>
    rw [List.foldl_cons, ih, decideOutside_eq]
    rfl

/-- A tick decided inside a span leaves the span's first tick, its last and its level. -/
theorem decideInside_eq {m : Monitor} {p : Span} (hp : m.span = some p) (t : Nat) :
    ∃ q : Span, q.first = p.first ∧ q.level = p.level ∧
      m.decideInside t = { m with records := decideWith (·.inside p.level) m.records t, span := some q } := by
  unfold decideInside decideWith
  cases h : tickRecord m.records t with
  | some r => exact ⟨p.takeTick r, rfl, rfl, by simp only [hp]⟩
  | none => exact ⟨p, rfl, rfl, by simp only [hp]; rw [← hp]⟩

theorem foldl_decideInside (ts : List Nat) {m : Monitor} {p : Span} (hp : m.span = some p) :
    ∃ q : Span, q.first = p.first ∧ q.level = p.level ∧
      ts.foldl .decideInside m = { m with records := decideAll (·.inside p.level) ts m.records, span := some q } := by
  induction ts generalizing m p with
  | nil => exact ⟨p, rfl, rfl, by rw [← hp]; rfl⟩
  | cons t ts ih =>
    obtain ⟨q, hqf, hql, hstep⟩ := decideInside_eq hp t
    obtain ⟨q', hf, hl, hrest⟩ := ih (m := m.decideInside t) (p := q) (by rw [hstep])
    refine ⟨q', hf.trans hqf, hl.trans hql, ?_⟩
    rw [List.foldl_cons, hrest, hstep, hql]
    rfl

/-! ### The agreement of a detector, by its records and its run -/

end Monitor

/-- The record is decided, with its class and its gain. -/
def TickRecord.settled (r : TickRecord) : Prop :=
  r.membership ≠ .pending ∧ r.tickClass.isSome = true ∧ r.gain.isSome = true

/-- The records stand in their slots, below `ticks`, each of them decided or of a tick that `pend` admits. -/
def recordsOk (ticks : Nat) (pend : Nat → Prop) (l : List (Nat × TickRecord)) : Prop :=
  ∀ k r, slotFind l k = some r → k = r.tick % Config.tickSlots ∧ r.tick < ticks ∧
    (r.settled ∨ r.membership = .pending ∧ pend r.tick)

/-- Tick `n` belongs to the run in progress. -/
def Monitor.running (m : Monitor) (n : Nat) : Prop :=
  (m.state = .opening ∨ m.state = .closing) ∧ m.runFirst ≤ n

/-- The run and the span agree with the state, at `ticks` completed ticks. -/
def Monitor.shapeOk (m : Monitor) (g : SideSettings) (ticks : Nat) : Prop :=
  match m.state with
  | .quiet => m.runCount = 0 ∧ m.span = none
  | .opening => (1 ≤ m.runCount ∧ m.runCount < g.debounce ∧ m.runFirst + m.runCount = ticks) ∧ m.span = none
  | .open => m.runCount = 0 ∧ m.span ≠ none
  | .closing => (1 ≤ m.runCount ∧ m.runCount < g.debounce ∧ m.runFirst + m.runCount = ticks) ∧ m.span ≠ none

theorem Monitor.recordOk_iff (m : Monitor) (k : Nat) (r : TickRecord) : m.recordOk k r = true ↔
    k = r.tick % Config.tickSlots ∧ r.tick < m.ticks ∧ (r.settled ∨ r.membership = .pending ∧ m.running r.tick) := by
  unfold Monitor.recordOk TickRecord.settled Monitor.running
  rw [Bool.and_eq_true, Bool.and_eq_true, decide_eq_true_eq, decide_eq_true_eq, and_assoc]
  cases r.membership <;> simp

theorem Monitor.runOk_iff (m : Monitor) (g : SideSettings) : m.runOk g = true ↔
    m.settled = 16 * (m.ticks - g.debounce) ∧ (m.state = .quiet ∨ 64 < m.ticks) ∧ m.shapeOk g m.ticks := by
  unfold Monitor.runOk Monitor.shapeOk
  rw [Bool.and_eq_true, Bool.and_eq_true, decide_eq_true_eq, Bool.or_eq_true, decide_eq_true_eq, decide_eq_true_eq, and_assoc]
  cases m.state <;> simp [Option.isSome_iff_ne_none]

theorem Monitor.tickOk_iff (m : Monitor) (g : SideSettings) : m.tickOk g = true ↔
    slotsRise m.records = true ∧ recordsOk m.ticks m.running m.records ∧
      m.settled = 16 * (m.ticks - g.debounce) ∧ (m.state = .quiet ∨ 64 < m.ticks) ∧ m.shapeOk g m.ticks := by
  unfold Monitor.tickOk recordsOk
  rw [Bool.and_eq_true, Bool.and_eq_true, and_assoc, runOk_iff]
  refine and_congr_right fun hrise => and_congr_left' ?_
  rw [List.all_eq_true]
  constructor
  · intro h k r hr
    exact (m.recordOk_iff k r).mp (h (k, r) ((mem_iff_slotFind hrise).mpr hr))
  · rintro h ⟨k, r⟩ hc
    exact (m.recordOk_iff k r).mpr (h k r ((mem_iff_slotFind hrise).mp hc))

theorem recordsOk.atHome {ticks : Nat} {pend : Nat → Prop} {l : List (Nat × TickRecord)} (h : recordsOk ticks pend l) : atHome l :=
  fun k r hr => (h k r hr).1

/-- Decisions that reach every pending tick leave none. -/
theorem recordsOk.decideAll {d : TickRecord → TickRecord} (hd : Decides d) {ticks : Nat} {pend : Nat → Prop}
    {l : List (Nat × TickRecord)} (h : recordsOk ticks pend l) {ts : List Nat} (hts : ∀ n < ticks, pend n → n ∈ ts)
    (pend' : Nat → Prop) :
    recordsOk ticks pend' (decideAll d ts l) := by
  intro k r hr
  rw [slotFind_decideAll hd ts h.atHome] at hr
  obtain ⟨q, hq, rfl⟩ := Option.map_eq_some_iff.mp hr
  obtain ⟨hhome, hbelow, hstate⟩ := h k q hq
  by_cases hmem : q.tick ∈ ts
  · rw [if_pos hmem, hd.tick]
    exact ⟨hhome, hbelow, .inl (hd.decided q)⟩
  · rw [if_neg hmem]
    refine ⟨hhome, hbelow, hstate.imp_right fun hpend => absurd (hts _ hbelow hpend.2) hmem⟩

theorem mem_tickRange {lo hi n : Nat} : n ∈ tickRange lo hi ↔ lo ≤ n ∧ n ≤ hi := by
  unfold tickRange
  rw [List.mem_map]
  constructor
  · rintro ⟨a, ha, rfl⟩
    have := List.mem_range.mp ha
    omega
  · rintro ⟨hlo, hhi⟩
    exact ⟨n - lo, List.mem_range.mpr (by omega), by omega⟩

end Sys2Proof.Machine
end
section
/-! PROOFS. A tick's completion keeps the detector's agreement; the end of capture decides what is left (O42). -/

namespace Sys2Proof.Machine

namespace Monitor

section Detect

variable {g : SideSettings} {t : Nat} {w u : Monitor}

/-- What the detector leaves of `w` at the completion of tick `t`. -/
structure Completed (g : SideSettings) (t : Nat) (w u : Monitor) : Prop where
  rise : slotsRise u.records = true
  records : recordsOk (t + 1) u.running u.records
  shape : u.shapeOk g (t + 1)
  early : u.state = .quiet ∨ 64 ≤ t
  kept : ∀ n, (tickRecord u.records n).map (fun r => (r.tick, r.envelope, r.lift, r.gMax)) =
    (tickRecord w.records n).map fun r => (r.tick, r.envelope, r.lift, r.gMax)

/-- A detector as the completion of tick `t` finds it, the tick's record written. -/
structure Written (g : SideSettings) (t : Nat) (w : Monitor) : Prop where
  rise : slotsRise w.records = true
  records : recordsOk (t + 1) (fun n => n = t ∨ w.running n) w.records
  shape : w.shapeOk g t
  early : w.state = .quiet ∨ 64 < t

/-- The run and the tick decided. -/
theorem Written.completed_decided (hw : Written g t w) {d : TickRecord → TickRecord} (hd : Decides d) {ts : List Nat}
    (hrec : u.records = decideAll d ts w.records) (ht : t ∈ ts) (hrun : ∀ n ≤ t, w.running n → n ∈ ts)
    (hshape : u.shapeOk g (t + 1))
    (hearly : u.state = .quiet ∨ 64 ≤ t) : Completed g t w u where
  rise := hrec ▸ slotsRise_decideAll ts hw.rise
  records := by
    rw [hrec]
    refine hw.records.decideAll hd (fun n hn hpend => ?_) _
    rcases hpend with rfl | hpend
    · exact ht
    · exact hrun n (Nat.le_of_lt_succ hn) hpend
  shape := hshape
  early := hearly
  kept n := by rw [hrec, tickRecord_decideAll_kept hd ts hw.records.atHome]

/-- The tick counted toward a run. -/
theorem Written.completed_counted (hw : Written g t w) {state : SpanState} (hstate : state = .opening ∨ state = .closing)
    (hrun : ∀ n ≤ t, w.running n → w.runCount ≠ 0 ∧ w.runFirst ≤ n) (hfirst : w.runCount ≠ 0 → w.runFirst ≤ t)
    (hshape : (w.countRun state t).shapeOk g (t + 1)) (hearly : 64 ≤ t) : Completed g t w (w.countRun state t) where
  rise := hw.rise
  records k r hr := by
    obtain ⟨hhome, hbelow, hdec⟩ := hw.records k r hr
    refine ⟨hhome, hbelow, hdec.imp_right fun ⟨hpend, hin⟩ => ⟨hpend, hstate, ?_⟩⟩
    show (if w.runCount = 0 then t else w.runFirst) ≤ r.tick
    rcases hin with hin | hin
    · rw [hin]
      split
      · exact Nat.le_refl _
      · exact hfirst ‹_›
    · obtain ⟨hcount, hle⟩ := hrun _ (Nat.le_of_lt_succ hbelow) hin
      rw [if_neg hcount]
      exact hle
  shape := hshape
  early := .inr hearly
  kept _ := rfl

/-- A span opened over the run and the tick. -/
theorem Written.completed_openSpan (hw : Written g t w) (k : Track) {first : Nat} (hle : first ≤ t)
    (hrun : ∀ n, w.running n → first ≤ n) (hearly : 64 ≤ t) : Completed g t w (w.openSpan k first t).1 := by
  obtain ⟨q, -, -, hfold⟩ := foldl_decideInside (tickRange first t) (p := ⟨first, t, w.level, 4095, .lifted⟩)
    (m := { w with state := .open, runCount := 0, span := some ⟨first, t, w.level, 4095, .lifted⟩ }) rfl
  have hopen : (w.openSpan k first t).1 = _ := hfold
  rw [hopen]
  exact hw.completed_decided (decides_inside w.level) rfl (mem_tickRange.mpr ⟨hle, Nat.le_refl _⟩)
    (fun n hn h => mem_tickRange.mpr ⟨hrun n h, hn⟩) ⟨rfl, Option.some_ne_none _⟩ (.inr hearly)

/-- The open span extended over the run and the tick. -/
theorem Written.completed_extendSpan (hw : Written g t w) (k : Track) {first : Nat} (hspan : w.span ≠ none) (hle : first ≤ t)
    (hrun : ∀ n, w.running n → first ≤ n) (hearly : 64 ≤ t) : Completed g t w (w.extendSpan k first t).1 := by
  obtain ⟨p, hp⟩ := Option.ne_none_iff_exists'.mp hspan
  obtain ⟨q, -, -, hfold⟩ := foldl_decideInside (tickRange first t) hp
  unfold extendSpan
  simp only [hfold]
  exact hw.completed_decided (decides_inside p.level) rfl (mem_tickRange.mpr ⟨hle, Nat.le_refl _⟩)
    (fun n hn h => mem_tickRange.mpr ⟨hrun n h, hn⟩) ⟨rfl, Option.some_ne_none _⟩ (.inr hearly)

/-- The run and the tick decided OUTSIDE, and the detector QUIET. -/
theorem Written.completed_outside (hw : Written g t w) {first : Nat} (hle : first ≤ t) (hrun : ∀ n, w.running n → first ≤ n)
    (hrec : u.records = decideAll .outside (tickRange first t) w.records) (hstate : u.state = .quiet) (hcount : u.runCount = 0)
    (hspan : u.span = none) : Completed g t w u := by
  refine hw.completed_decided decides_outside hrec (mem_tickRange.mpr ⟨hle, Nat.le_refl _⟩)
    (fun n hn h => mem_tickRange.mpr ⟨hrun n h, hn⟩) ?_ (.inl hstate)
  unfold shapeOk
  rw [hstate]
  exact ⟨hcount, hspan⟩

theorem tickRange_self (t : Nat) : tickRange t t = [t] := by
  simp [tickRange]

theorem decideOutside_records (w : Monitor) (t : Nat) : (w.decideOutside t).records = decideAll .outside (tickRange t t) w.records := by
  rw [decideOutside_eq, tickRange_self]
  rfl

theorem decideOutside_run (w : Monitor) (t : Nat) : (w.decideOutside t).state = w.state ∧ (w.decideOutside t).runCount = w.runCount ∧
    (w.decideOutside t).span = w.span := by
  rw [decideOutside_eq]
  exact ⟨rfl, rfl, rfl⟩

theorem closeSpan_records (w : Monitor) (k : Track) (first t : Nat) :
    (w.closeSpan k first t).1.records = decideAll .outside (tickRange first t) w.records := by
  unfold closeSpan
  simp only [foldl_decideOutside]

/-- A detector out of a run has no tick in one. -/
theorem not_running (h : w.state = .quiet ∨ w.state = .open) (n : Nat) : ¬w.running n := by
  rintro ⟨hrun, -⟩
  rcases h with h | h <;> rcases hrun with hrun | hrun <;> rw [h] at hrun <;> cases hrun

/-- A tick counted as the first of a run. -/
theorem Written.completed_firstCounted (hw : Written g t w) {state : SpanState} (hstate : state = .opening ∨ state = .closing)
    (hnone : ∀ n, ¬w.running n) (hcount : w.runCount = 0) (hshape : (w.countRun state t).shapeOk g (t + 1)) (hearly : 64 ≤ t) :
    Completed g t w (w.countRun state t) :=
  hw.completed_counted hstate (fun n _ h => absurd h (hnone n)) (fun h => absurd hcount h) hshape hearly

/-- What the run of a detector in OPENING or CLOSING says of its tick. -/
theorem countAndFirst_of_run (hrun : 1 ≤ w.runCount ∧ w.runCount < g.debounce ∧ w.runFirst + w.runCount = t) :
    w.runCount ≠ 0 ∧ w.runFirst ≤ t := by
  omega

theorem countRun_run {state : SpanState} (hrun : 1 ≤ w.runCount ∧ w.runCount < g.debounce ∧ w.runFirst + w.runCount = t)
    (hmore : w.runCount + 1 ≠ g.debounce) :
    1 ≤ (w.countRun state t).runCount ∧ (w.countRun state t).runCount < g.debounce ∧
      (w.countRun state t).runFirst + (w.countRun state t).runCount = t + 1 := by
  have hcount : w.runCount ≠ 0 := (countAndFirst_of_run hrun).1
  unfold countRun
  simp only [if_neg hcount]
  omega

theorem countRun_first {state : SpanState} (hcount : w.runCount = 0) (hdebounce : 1 ≤ g.debounce) (hmore : g.debounce ≠ 1) :
    1 ≤ (w.countRun state t).runCount ∧ (w.countRun state t).runCount < g.debounce ∧
      (w.countRun state t).runFirst + (w.countRun state t).runCount = t + 1 := by
  unfold countRun
  simp only [hcount, ↓reduceIte]
  exact ⟨Nat.le_refl 1, Nat.lt_of_le_of_ne hdebounce (Ne.symm hmore), trivial⟩

/-- The detector at a tick's completion (spec/04 R60), state by state. -/
theorem Written.completed_detect (hw : Written g t w) (hdebounce : 1 ≤ g.debounce) (k : Track) : Completed g t w (w.detect g k t).1 := by
  have hshape := hw.shape
  have hfirst : ∀ n, w.running n → w.runFirst ≤ n := fun n h => h.2
  have hdecide := w.decideOutside_run t
  unfold shapeOk at hshape
  unfold detect
  by_cases hstart : t < 64
  · have hquiet : w.state = .quiet := hw.early.resolve_right (by omega)
    have hnone := not_running (.inl hquiet)
    rw [hquiet] at hshape
    rw [if_pos hstart]
    exact hw.completed_outside (Nat.le_refl t) (fun n h => absurd h (hnone n)) (w.decideOutside_records t)
      (hdecide.1.trans hquiet) (hdecide.2.1.trans hshape.1) (hdecide.2.2.trans hshape.2)
  · have hlate : 64 ≤ t := Nat.not_lt.mp hstart
    rw [if_neg hstart]
    match hstate : w.state with
    | .quiet =>
      have hnone := not_running (.inl hstate)
      simp only [hstate] at hshape
      dsimp only
      split
      · split
        · exact hw.completed_openSpan k (Nat.le_refl t) (fun n h => absurd h (hnone n)) hlate
        · exact hw.completed_firstCounted (.inl rfl) hnone hshape.1 ⟨countRun_first hshape.1 hdebounce ‹_›, hshape.2⟩ hlate
      · exact hw.completed_outside (Nat.le_refl t) (fun n h => absurd h (hnone n)) (w.decideOutside_records t)
          (hdecide.1.trans hstate) (hdecide.2.1.trans hshape.1) (hdecide.2.2.trans hshape.2)
    | .opening =>
      simp only [hstate] at hshape
      obtain ⟨hrun, hspan⟩ := hshape
      obtain ⟨hcount, hle⟩ := countAndFirst_of_run hrun
      dsimp only
      split
      · split
        · exact hw.completed_openSpan k hle hfirst hlate
        · exact hw.completed_counted (.inl rfl) (fun n _ h => ⟨hcount, h.2⟩) (fun _ => hle)
            ⟨countRun_run hrun ‹_›, hspan⟩ hlate
      · exact hw.completed_outside hle hfirst (by simp only [foldl_decideOutside]) rfl rfl
          (by simp only [foldl_decideOutside]; exact hspan)
    | .open =>
      have hnone := not_running (.inr hstate)
      simp only [hstate] at hshape
      dsimp only
      split
      · split
        · exact hw.completed_outside (Nat.le_refl t) (fun n h => absurd h (hnone n)) (w.closeSpan_records k t t) rfl rfl rfl
        · exact hw.completed_firstCounted (.inr rfl) hnone hshape.1 ⟨countRun_first hshape.1 hdebounce ‹_›, hshape.2⟩ hlate
      · exact hw.completed_extendSpan k hshape.2 (Nat.le_refl t) (fun n h => absurd h (hnone n)) hlate
    | .closing =>
      simp only [hstate] at hshape
      obtain ⟨hrun, hspan⟩ := hshape
      obtain ⟨hcount, hle⟩ := countAndFirst_of_run hrun
      dsimp only
      split
      · split
        · exact hw.completed_outside hle hfirst (w.closeSpan_records k w.runFirst t) rfl rfl rfl
        · exact hw.completed_counted (.inr rfl) (fun n _ h => ⟨hcount, h.2⟩) (fun _ => hle)
            ⟨countRun_run hrun ‹_›, hspan⟩ hlate
      · exact hw.completed_extendSpan k hspan hle hfirst hlate

end Detect

end Monitor

end Sys2Proof.Machine
end
section
/-! PROOFS. A tick's completion and the end of capture, whole (O42). -/

namespace Sys2Proof.Machine

/-! ### The completion -/

/-- The detector with the completed tick's record written. -/
def Monitor.written (m : Monitor) : Monitor :=
  { m with records := putRecord m.records (m.newRecord m.ticks) }

namespace Monitor

variable {m : Monitor} {g : SideSettings}

theorem written_ok (h : m.tickOk g = true) : Written g m.ticks m.written := by
  obtain ⟨hrise, hrecords, -, hearly, hshape⟩ := (m.tickOk_iff g).mp h
  refine ⟨slotsRise_slotPut hrise .., fun k r hr => ?_, hshape, hearly⟩
  by_cases hk : k = m.ticks % Config.tickSlots
  · subst hk
    have hnew : r = m.newRecord m.ticks := Option.some.inj (hr.symm.trans (slotFind_slotPut_self ..))
    subst hnew
    exact ⟨rfl, Nat.lt_succ_self _, .inr ⟨rfl, .inl rfl⟩⟩
  · have hold : slotFind m.records k = some r := (slotFind_slotPut_of_ne _ _ hk).symm.trans hr
    obtain ⟨hhome, hbelow, hdec⟩ := hrecords k r hold
    exact ⟨hhome, Nat.lt_succ_of_lt hbelow, hdec.imp_right fun hpend => ⟨hpend.1, .inr hpend.2⟩⟩

theorem completeTick_completed (h : m.tickOk g = true) (hdebounce : 1 ≤ g.debounce) (k : Track) :
    Completed g m.ticks m.written (m.completeTick g k).1 := by
  obtain ⟨hrise, hrecords, hshape, hearly, hkept⟩ := (written_ok h).completed_detect hdebounce k
  exact ⟨hrise, hrecords, hshape, hearly, hkept⟩

theorem completeTick_ok (h : m.tickOk g = true) (hdebounce : 1 ≤ g.debounce) (k : Track) : (m.completeTick g k).1.tickOk g = true := by
  obtain ⟨hrise, hrecords, hshape, hearly, -⟩ := completeTick_completed h hdebounce k
  exact (tickOk_iff _ g).mpr ⟨hrise, hrecords, rfl, hearly.imp_right fun hlate => Nat.lt_succ_of_le hlate, hshape⟩

theorem completeTick_record (h : m.tickOk g = true) (hdebounce : 1 ≤ g.debounce) (k : Track) :
    (tickRecord (m.completeTick g k).1.records m.ticks).map (fun r => (r.envelope, r.lift, r.gMax)) = some (m.peak, m.lift, m.gMax) := by
  have hnew : tickRecord m.written.records m.ticks = some (m.newRecord m.ticks) :=
    tickRecord_eq_some_iff.mpr ⟨slotFind_slotPut_self .., rfl⟩
  have hkept := congrArg (Option.map Prod.snd) ((completeTick_completed h hdebounce k).kept m.ticks)
  rw [hnew, Option.map_map] at hkept
  exact hkept

/-- A record below the settled index is decided. -/
theorem settled_of_tickOk (h : m.tickOk g = true) {n : Nat} {r : TickRecord} (hr : tickRecord m.records n = some r)
    (hn : 16 * n < m.settled) : r.settled := by
  obtain ⟨-, hrecords, hsettled, -, hshape⟩ := (m.tickOk_iff g).mp h
  obtain ⟨hfind, rfl⟩ := tickRecord_eq_some_iff.mp hr
  obtain ⟨-, -, hdec⟩ := hrecords _ r hfind
  refine hdec.resolve_right fun ⟨_, hstate, hfirst⟩ => ?_
  have hrun : m.runCount < g.debounce ∧ m.runFirst + m.runCount = m.ticks := by
    unfold shapeOk at hshape
    rcases hstate with hstate | hstate <;> rw [hstate] at hshape <;> exact hshape.1.2
  omega

/-! ### The end of capture -/

/-- The record of a partial final tick: INSIDE the open span, or else OUTSIDE. -/
def partialRecord (m : Monitor) : TickRecord :=
  match m.span with
  | some p => (m.newRecord m.ticks).inside p.level
  | none => (m.newRecord m.ticks).outside

theorem partialRecord_fields (m : Monitor) :
    (m.partialRecord.tick, m.partialRecord.envelope, m.partialRecord.lift, m.partialRecord.gMax) = (m.ticks, m.peak, m.lift, m.gMax) := by
  unfold partialRecord
  cases m.span <;> rfl

theorem partialRecord_outside (h : m.span = none) :
    m.partialRecord = { m.partialRecord with membership := .outside, tickClass := some .outside, gain := some 4096 } := by
  have hr : m.partialRecord = (m.newRecord m.ticks).outside := by simp only [partialRecord, h]
  rw [hr]
  rfl

theorem partialRecord_inside {p : Span} (h : m.span = some p) :
    m.partialRecord.membership = .inside ∧ m.partialRecord.tickClass = some (m.partialRecord.classInside p.level) ∧
      m.partialRecord.gain = some (m.partialRecord.gainInside p.level) := by
  have hr : m.partialRecord = (m.newRecord m.ticks).inside p.level := by simp only [partialRecord, h]
  rw [hr]
  exact ⟨rfl, rfl, rfl⟩

theorem partialTick_of_whole {e : Nat} (he : e % 16 = 0) : m.partialTick e = m :=
  if_pos he

theorem partialTick_finalTick {e : Nat} (he : e % 16 ≠ 0) : (m.partialTick e).finalTick = some m.partialRecord := by
  unfold partialTick partialRecord
  rw [if_neg he]
  cases m.span <;> rfl

/-- The partial final tick leaves the first tick and the level of an open span. -/
theorem partialTick_span (e : Nat) : (m.partialTick e).span.map (fun p => (p.first, p.level)) = m.span.map fun p => (p.first, p.level) := by
  unfold partialTick
  split
  · rfl
  · cases hspan : m.span with
    | some p => rfl
    | none => simp

/-- The end of capture decides what is left of the run. -/
theorem finish_decides (h : m.tickOk g = true) (k : Track) (e : Nat) :
    ∃ d ts, Decides d ∧ (∀ n < m.ticks, m.running n → n ∈ ts) ∧
    (m.finish k e).1.records = decideAll d ts m.records ∧ (m.finish k e).1.finalTick = (m.partialTick e).finalTick := by
  obtain ⟨-, -, -, -, hshape⟩ := (m.tickOk_iff g).mp h
  have hcover : ∀ n < m.ticks, m.running n → n ∈ tickRange m.runFirst (m.ticks - 1) := fun n hn hrun =>
    mem_tickRange.mpr ⟨hrun.2, Nat.le_sub_one_of_lt hn⟩
  unfold finish
  match hstate : m.state with
  | .quiet => exact ⟨_, [], decides_outside, fun n _ hrun => absurd hrun (not_running (.inl hstate) n), m.partialTick_records e, rfl⟩
  | .opening =>
    refine ⟨_, _, decides_outside, hcover, ?_, ?_⟩
    · simp only [foldl_decideOutside, partialTick_records]
    · simp only [foldl_decideOutside]
  | .open => exact ⟨_, [], decides_outside, fun n _ hrun => absurd hrun (not_running (.inr hstate) n), m.partialTick_records e, rfl⟩
  | .closing =>
    unfold shapeOk at hshape
    rw [hstate] at hshape
    obtain ⟨p, hp⟩ := Option.ne_none_iff_exists'.mp hshape.2
    have hspan := m.partialTick_span e
    rw [hp] at hspan
    obtain ⟨q, hq, -⟩ := Option.map_eq_some_iff.mp hspan
    obtain ⟨q', -, -, hfold⟩ := foldl_decideInside (tickRange m.runFirst (m.ticks - 1)) hq
    refine ⟨_, _, decides_inside q.level, hcover, ?_, ?_⟩
    · simp only [hfold, partialTick_records]
    · simp only [hfold]

/-- What a report says of its span: the range it grows to, and whether it closes. -/
def reportRange (r : Report) : Option (Nat × Nat) × Bool :=
  match r with
  | .growth q => (q.range, q.closes)
  | .span _ => (none, false)

theorem spanReports_range {n : Monitor} {k : Track} {e : Nat}
    (hspan : n.span.map (fun p => p.first) = m.span.map fun p => p.first) :
    (n.spanReports fun q => spanGrowth k q (e - Config.tickLength * q.first) true).map reportRange =
      m.span.toList.map fun p => (some (16 * p.first, e - 16 * p.first), true) := by
  unfold spanReports
  cases hn : n.span with
  | none =>
    rw [hn] at hspan
    rw [Option.map_eq_none_iff.mp hspan.symm]
    rfl
  | some q =>
    rw [hn] at hspan
    obtain ⟨p, hp, hfirst⟩ := Option.map_eq_some_iff.mp hspan.symm
    rw [hp]
    simp only [List.map_cons, List.map_nil, Option.toList_some, reportRange, spanGrowth, ← hfirst]

theorem finish_reports (h : m.tickOk g = true) (k : Track) (e : Nat) :
    (m.finish k e).2.map reportRange = m.span.toList.map fun p => (some (16 * p.first, e - 16 * p.first), true) := by
  obtain ⟨-, -, -, -, hshape⟩ := (m.tickOk_iff g).mp h
  have hspan : (m.partialTick e).span.map (fun p => p.first) = m.span.map fun p => p.first := by
    have := congrArg (Option.map Prod.fst) (m.partialTick_span e)
    rwa [Option.map_map, Option.map_map] at this
  unfold shapeOk at hshape
  unfold finish
  match hstate : m.state with
  | .quiet =>
    rw [hstate] at hshape
    rw [hshape.2]
    rfl
  | .opening =>
    rw [hstate] at hshape
    rw [hshape.2]
    rfl
  | .open => exact spanReports_range hspan
  | .closing =>
    rw [hstate] at hshape
    obtain ⟨p, hp⟩ := Option.ne_none_iff_exists'.mp hshape.2
    rw [hp] at hspan
    obtain ⟨q, hq, hfirst⟩ := Option.map_eq_some_iff.mp hspan
    obtain ⟨q', hq', -, hfold⟩ := foldl_decideInside (tickRange m.runFirst (m.ticks - 1)) hq
    refine spanReports_range ?_
    rw [hfold, hp]
    exact congrArg some (hq'.trans hfirst)

end Monitor

/-- Settles O42: the detector's completion by its state, and the end of capture by the run it decides. -/
theorem tickCompletionKeepsSettledDecided : Obligations.TickCompletionKeepsSettledDecided := by
  intro m g k hdebounce hok
  have hone : 1 ≤ g.debounce := by
    simp only [List.mem_cons, List.not_mem_nil, or_false] at hdebounce
    omega
  refine ⟨fun part hpart => ?_, Monitor.completeTick_ok hok hone k, rfl, rfl, rfl, Monitor.completeTick_record hok hone k,
    fun t r hr hn => Monitor.settled_of_tickOk (Monitor.completeTick_ok hok hone k) hr hn⟩
  intro e f
  obtain ⟨d, ts, hd, hcover, hrecords, hfinal⟩ := Monitor.finish_decides hok k e
  obtain ⟨-, hold, -⟩ := (m.tickOk_iff g).mp hok
  have hpartial : e % 16 = part := by omega
  refine ⟨rfl, rfl, rfl, fun hzero => ?_, fun hsome => ?_, fun t => ?_, fun t r hr => ?_, ?_⟩
  · rw [hfinal, Monitor.partialTick_of_whole (hpartial.trans hzero)]
  · have hlast : f.finalTick = some m.partialRecord := hfinal.trans (Monitor.partialTick_finalTick (hpartial ▸ hsome))
    refine ⟨m.partialRecord, hlast, ?_, m.partialRecord_fields, ?_⟩
    · unfold Monitor.record
      rw [hlast]
      exact if_pos (congrArg Prod.fst m.partialRecord_fields)
    · cases hspan : m.span with
      | none => exact Monitor.partialRecord_outside hspan
      | some p => exact Monitor.partialRecord_inside hspan
  · exact (congrArg (fun l => (tickRecord l t).map _) hrecords).trans (tickRecord_decideAll_kept hd ts hold.atHome t)
  · obtain ⟨hfind, -⟩ := tickRecord_eq_some_iff.mp hr
    have hdecided := hold.decideAll hd hcover fun _ => False
    rw [← hrecords] at hdecided
    obtain ⟨-, -, hset⟩ := hdecided _ r hfind
    exact hset.resolve_right And.right
  · exact Monitor.finish_reports hok k e

end Sys2Proof.Machine
end
section
/-! PROOFS. The speed table: the entry written, the entries finalised (O40). -/

namespace Sys2Proof.Machine

/-! ### Entries of the table -/

section Entries

variable {table : List (Nat × SpeedEntry)} {slots j k : Nat} {e : SpeedEntry}

theorem tableEntry_eq_some_iff : tableEntry table slots j = some e ↔ slotFind table (j % slots) = some e ∧ e.window = j := by
  unfold tableEntry
  split
  next e' h =>
    rw [h]
    split
    next hj =>
      constructor
      · rintro ⟨⟩
        exact ⟨rfl, hj⟩
      · rintro ⟨⟨⟩, -⟩
        rfl
    next hj =>
      constructor
      · rintro ⟨⟩
      · rintro ⟨⟨⟩, hw⟩
        exact absurd hw hj
  next h => simp [h]

theorem tableEntry_slotPut_self (he : e.window = j) : tableEntry (slotPut table (j % slots) e) slots j = some e :=
  tableEntry_eq_some_iff.mpr ⟨slotFind_slotPut_self .., he⟩

theorem tableEntry_slotPut_of_ne (h : k % slots ≠ j % slots) : tableEntry (slotPut table (j % slots) e) slots k = tableEntry table slots k := by
  ext e'
  rw [tableEntry_eq_some_iff, tableEntry_eq_some_iff, slotFind_slotPut_of_ne _ _ h]

/-- A slot that holds another window's entry answers for none of its other windows. -/
theorem tableEntry_eq_none (h : slotFind table (k % slots) = some e) (hk : e.window ≠ k) : tableEntry table slots k = none := by
  refine Option.eq_none_iff_forall_ne_some.mpr fun e' h' => hk ?_
  obtain ⟨hfind, hwindow⟩ := tableEntry_eq_some_iff.mp h'
  cases h.symm.trans hfind
  exact hwindow

end Entries

/-! ### Finalisation -/

/-- An entry without its applied step. -/
def SpeedEntry.bare (e : SpeedEntry) : SpeedEntry :=
  { e with appliedStep := none }

/-- An entry finalised from the members of a table. -/
def SpeedEntry.finalised (table : List (Nat × SpeedEntry)) (slots h : Nat) (e : SpeedEntry) : SpeedEntry :=
  { e with appliedStep := some (appliedStepOf table slots h e) }

/-- The tables hold the same entries but for their applied steps. -/
def SameBare (slots : Nat) (a b : List (Nat × SpeedEntry)) : Prop :=
  ∀ k, (tableEntry a slots k).map SpeedEntry.bare = (tableEntry b slots k).map SpeedEntry.bare

section Finalise

variable {slots h : Nat} {a b : List (Nat × SpeedEntry)}

theorem SameBare.memberSteps (hab : SameBare slots a b) (j : Nat) : memberSteps a slots h j = memberSteps b slots h j := by
  have hbase : ∀ k, (tableEntry a slots k).map (·.baseStep) = (tableEntry b slots k).map (·.baseStep) := fun k => by
    have hk := congrArg (Option.map SpeedEntry.baseStep) (hab k)
    rw [Option.map_map, Option.map_map] at hk
    exact hk
  unfold Machine.memberSteps
  simp only [hbase]

/-- The applied step depends on the entry but for its own applied step, and on the members' base steps. -/
theorem SameBare.finalised (hab : SameBare slots a b) {e e' : SpeedEntry} (he : e.bare = e'.bare) :
    e.finalised a slots h = e'.finalised b slots h := by
  have hstep : appliedStepOf a slots h e = appliedStepOf b slots h e' := by
    have hlock : e.lock = e'.lock := (SpeedEntry.mk.inj he).2.2.2.2.2.2.2.2
    have hbase : e.baseStep = e'.baseStep := (SpeedEntry.mk.inj he).2.2.2.2.2.1
    have hwindow : e.window = e'.window := (SpeedEntry.mk.inj he).1
    unfold appliedStepOf
    rw [hlock, hbase, hwindow, hab.memberSteps]
  unfold SpeedEntry.finalised
  rw [hstep]
  exact congrArg (fun q : SpeedEntry => { q with appliedStep := some (appliedStepOf b slots h e') }) he

theorem tableEntry_finaliseEntry (table : List (Nat × SpeedEntry)) (j k : Nat) :
    tableEntry (finaliseEntry slots h table j) slots k =
      if k = j then (tableEntry table slots k).map (·.finalised table slots h) else tableEntry table slots k := by
  unfold finaliseEntry
  cases hj : tableEntry table slots j with
  | none =>
    dsimp only
    split
    next hk => rw [hk, hj]; rfl
    next => rfl
  | some e =>
    obtain ⟨hfind, hwindow⟩ := tableEntry_eq_some_iff.mp hj
    dsimp only
    split
    next hk =>
      rw [hk, hj]
      exact tableEntry_slotPut_self hwindow
    next hk =>
      by_cases hslot : k % slots = j % slots
      · have hnone : tableEntry table slots k = none :=
          tableEntry_eq_none (hslot ▸ hfind) fun hwk => hk (hwk.symm.trans hwindow)
        rw [hnone]
        exact tableEntry_eq_none (e := e.finalised table slots h) (by rw [hslot]; exact slotFind_slotPut_self ..)
          fun hwk => hk (hwk.symm.trans hwindow)
      · exact tableEntry_slotPut_of_ne hslot

theorem sameBare_finaliseEntry (table : List (Nat × SpeedEntry)) (j : Nat) : SameBare slots (finaliseEntry slots h table j) table := by
  intro k
  rw [tableEntry_finaliseEntry]
  split
  · rw [Option.map_map]
    rfl
  · rfl

/-- Several entries finalised: each with the mean of its members in the table before. -/
theorem tableEntry_finalise (js : List Nat) (table : List (Nat × SpeedEntry)) (k : Nat) :
    tableEntry (js.foldl (finaliseEntry slots h) table) slots k =
      if k ∈ js then (tableEntry table slots k).map (·.finalised table slots h) else tableEntry table slots k := by
  induction js generalizing table with
  | nil => rfl
  | cons j js ih =>
    have hsame : SameBare slots (finaliseEntry slots h table j) table := sameBare_finaliseEntry table j
    rw [List.foldl_cons, ih, tableEntry_finaliseEntry]
    by_cases hk : k = j
    · subst hk
      rw [if_pos rfl, if_pos List.mem_cons_self, Option.map_map]
      split
      · refine congrArg (Option.map · _) (funext fun e => ?_)
        exact hsame.finalised (e := e.finalised table slots h) rfl
      · rfl
    · rw [if_neg hk]
      simp only [List.mem_cons, hk, false_or]
      split
      · exact congrArg (Option.map · _) (funext fun e => hsame.finalised rfl)
      · rfl

theorem sameBare_finalise (js : List Nat) (table : List (Nat × SpeedEntry)) :
    SameBare slots (js.foldl (finaliseEntry slots h) table) table := by
  intro k
  rw [tableEntry_finalise]
  split
  · rw [Option.map_map]
    rfl
  · rfl

end Finalise

/-! ### The finalisation point -/

namespace Tracker

variable (t : Tracker) (slots h upTo : Nat)

theorem finaliseTo_sameBare : SameBare slots (t.finaliseTo slots h upTo).table t.table :=
  sameBare_finalise _ _

/-- An entry between the old and the new finalisation point carries the mean of its members. -/
theorem finaliseTo_applied {k : Nat} {e : SpeedEntry} (he : tableEntry (t.finaliseTo slots h upTo).table slots k = some e)
    (hlow : t.final ≤ k) (hhigh : k < upTo) :
    e.appliedStep = some (appliedStepOf (t.finaliseTo slots h upTo).table slots h e) := by
  have hmem : k ∈ (List.range (upTo - t.final)).map (t.final + ·) :=
    List.mem_map.mpr ⟨k - t.final, List.mem_range.mpr (by omega), by omega⟩
  have hentry := tableEntry_finalise (h := h) (slots := slots) ((List.range (upTo - t.final)).map (t.final + ·)) t.table k
  rw [if_pos hmem] at hentry
  obtain ⟨q, -, rfl⟩ := Option.map_eq_some_iff.mp (hentry.symm.trans he)
  have hsame := (t.finaliseTo_sameBare slots h upTo).finalised (h := h) (e := q.finalised t.table slots h) (e' := q) rfl
  exact (congrArg SpeedEntry.appliedStep hsame).symm

end Tracker

end Sys2Proof.Machine
end
section
/-! PROOFS. A window close: the entry it writes, the lists it keeps, the entries it finalises (O40). -/

namespace Sys2Proof.Machine

namespace Tracker

variable (t : Tracker) (c : Closing)

/-! ### The lock state machine touches the lock alone -/

/-- `m` differs from `t` in P_eff, the lock, its counts and the acquisition sums only. -/
def LockMoved (t m : Tracker) : Prop :=
  m = { t with
    pEff := m.pEff, lock := m.lock, confirm := m.confirm, hold := m.hold, acqCount := m.acqCount, acqN := m.acqN, acqP := m.acqP }

theorem lockMoved_acquire (goal : Nat) (v : Verdict) (n p : Nat) : t.LockMoved (t.acquire goal v n p) := by
  unfold acquire
  split
  · split <;> rfl
  all_goals rfl

theorem lockMoved_beginConfirm (goal : Nat) : t.LockMoved (t.beginConfirm goal) := by
  unfold beginConfirm
  split <;> rfl

theorem lockMoved_lockOnIn (goal : Nat) : t.LockMoved (t.lockOnIn goal) := by
  unfold lockOnIn
  split
  case h_3 => split <;> rfl
  case h_2 => exact t.lockMoved_beginConfirm goal
  case h_6 => exact t.lockMoved_beginConfirm goal
  all_goals rfl

theorem lockMoved_lockOnReject (limit : Nat) : t.LockMoved (t.lockOnReject limit) := by
  unfold lockOnReject
  split
  case h_5 => split <;> rfl
  all_goals rfl

theorem lockMoved_moveLock (v : Option Verdict) : t.LockMoved (t.moveLock c v) := by
  unfold moveLock
  split
  · rfl
  · unfold lockStep
    split
    · exact t.lockMoved_acquire ..
    · split
      · exact t.lockMoved_lockOnIn _
      · exact t.lockMoved_lockOnReject _
      · exact t.lockMoved_lockOnReject _
      · exact t.lockMoved_lockOnReject _
      · rfl

end Tracker

/-- A count rounded half away from zero over 64 times another. -/
theorem roundHalfAway_ofNat (a n : Nat) : roundHalfAway a (64 * n) = (((2 * a + 64 * n) / (128 * n) : Nat) : Int) := by
  have hpos : ¬(a : Int) < 0 := by omega
  have hdouble : 128 * n = 2 * (64 * n) := by omega
  unfold roundHalfAway roundHalfUp
  rw [if_neg hpos, hdouble]
  push_cast
  rfl

/-! ### The close in terms of the tracker before it -/

namespace Tracker

variable (t : Tracker) (c : Closing)

/-- The table with the closing window's entry written. -/
def tableWith : List (Nat × SpeedEntry) :=
  slotPut t.table (t.windows % tableSlots c.settings.window) (t.entryOf c)

theorem tableWith_self : tableEntry (t.tableWith c) (tableSlots c.settings.window) t.windows = some (t.entryOf c) :=
  tableEntry_slotPut_self (e := t.entryOf c) rfl

/-- The first window that the close leaves unfinalised. -/
def finaliseUpTo : Nat :=
  if c.atEnd then t.windows + 1 else t.windows + 1 - halfSpan c.settings.smoothing

/-- The tracker with the entry written, as the finalisation finds it. -/
def closeWritten : Tracker :=
  let m := t.moveLock c (t.verdict c)
  { t with
    pEff := m.pEff, lock := m.lock, confirm := m.confirm, hold := m.hold, acqCount := m.acqCount, acqN := m.acqN, acqP := m.acqP
    lastAccepted := if m.lock = .locked ∧ t.verdict c ≠ some .short then (t.entryOf c).baseStep else t.lastAccepted
    table := t.tableWith c
    displaced := if c.atEnd then slotFind t.table (t.windows % tableSlots c.settings.window) else t.displaced
    windows := t.windows + 1, skewList := t.skewListAfter, sums := .zero
    boundary := if c.atEnd then t.boundary else some ((t.windows + 1) * c.settings.window) }

theorem close_eq :
    t.close c = (t.closeWritten c).finaliseTo (tableSlots c.settings.window) (halfSpan c.settings.smoothing) (t.finaliseUpTo c) := by
  have hmoved := t.lockMoved_moveLock c (t.verdict c)
  unfold LockMoved at hmoved
  have hwritten : t.closeWritten c = { t.moveLock c (t.verdict c) with
      lastAccepted := (t.closeWritten c).lastAccepted, table := (t.closeWritten c).table, displaced := (t.closeWritten c).displaced
      windows := t.windows + 1, skewList := t.skewListAfter, sums := .zero, boundary := (t.closeWritten c).boundary } :=
    congrArg (fun m : Tracker => { m with
      lastAccepted := (t.closeWritten c).lastAccepted, table := (t.closeWritten c).table, displaced := (t.closeWritten c).displaced
      windows := t.windows + 1, skewList := t.skewListAfter, sums := .zero, boundary := (t.closeWritten c).boundary }) hmoved.symm
  have hlast : (t.moveLock c (t.verdict c)).lastAccepted = t.lastAccepted := (congrArg Tracker.lastAccepted hmoved).trans rfl
  have htable : (t.moveLock c (t.verdict c)).table = t.table := (congrArg Tracker.table hmoved).trans rfl
  have hdisplaced : (t.moveLock c (t.verdict c)).displaced = t.displaced := (congrArg Tracker.displaced hmoved).trans rfl
  have hboundary : (t.moveLock c (t.verdict c)).boundary = t.boundary := (congrArg Tracker.boundary hmoved).trans rfl
  unfold close
  simp only [hlast, htable, hdisplaced, hboundary]
  rw [hwritten]
  rfl

theorem close_table : SameBare (tableSlots c.settings.window) (t.close c).table (t.tableWith c) := by
  rw [close_eq]
  exact (t.closeWritten c).finaliseTo_sameBare _ _ _

theorem close_final : (t.close c).final = max t.final (t.finaliseUpTo c) := by rw [close_eq]; rfl

theorem close_lastAccepted : (t.close c).lastAccepted =
    if (t.close c).lock = .locked ∧ t.verdict c ≠ some .short then (t.entryOf c).baseStep else t.lastAccepted := by
  rw [close_eq]
  rfl

theorem close_kept : (t.close c).windows = t.windows + 1 ∧ (t.close c).sums = .zero ∧ (t.close c).source = t.source ∧
    (t.close c).left = t.left ∧ (t.close c).right = t.right := by
  rw [close_eq]
  exact ⟨rfl, rfl, rfl, rfl, rfl⟩

theorem close_displaced : (t.close c).displaced =
    if c.atEnd then slotFind t.table (t.windows % tableSlots c.settings.window) else t.displaced := by
  rw [close_eq]
  rfl

theorem close_skewList : (t.close c).skewList = t.skewListAfter := by
  rw [close_eq]
  rfl

/-- An entry between the finalisation points of a close carries the mean of its members. -/
theorem close_applied {k : Nat} {e : SpeedEntry} (he : tableEntry (t.close c).table (tableSlots c.settings.window) k = some e)
    (hlow : t.final ≤ k) (hhigh : k < (t.close c).final) :
    e.appliedStep = some (appliedStepOf (t.close c).table (tableSlots c.settings.window) (halfSpan c.settings.smoothing) e) := by
  have hupTo : k < t.finaliseUpTo c := by
    rw [close_final] at hhigh
    omega
  rw [close_eq] at he ⊢
  exact (t.closeWritten c).finaliseTo_applied _ _ _ he hlow hupTo

/-! ### The entry -/

theorem verdict_eq_none_iff : t.verdict c = none ↔ t.source = .none := by
  unfold verdict
  cases t.source <;> simp

theorem entryOf_lock_eq : (t.entryOf c).lock = if t.source = .none then .off else (t.close c).lock := by
  have hnone := t.verdict_eq_none_iff c
  show (if t.verdict c = none then LockState.off else (t.close c).lock) = _
  simp only [hnone]

theorem rawStep_eq (v : Option Verdict) : t.rawStep c v =
    if v = some .inside ∧ t.source ∈ [.biasL, .biasR, .biasBoth] ∧ t.pEff ≠ 0 then
      some ((2 * (c.nominal * t.windowP c) + t.windowN c * t.pEff) / (2 * (t.windowN c * t.pEff)))
    else if v = some .inside ∧ t.source = .deck then
      some ((2 * (c.nominal * t.windowP c) + c.settings.tNom) / (2 * c.settings.tNom))
    else none := by
  unfold rawStep
  by_cases hv : v = some .inside
  · by_cases hp : t.pEff = 0
    · cases hs : t.source <;> simp [hv, hp, rawStepDeck, roundHalfUpNat]
    · cases hs : t.source <;> simp [hv, hp, rawStepDeck, rawStepBias, roundHalfUpNat]
  · simp [hv]

theorem entryOf_baseStep : (t.entryOf c).baseStep =
    if t.verdict c = some .short then ((t.newest (tableSlots c.settings.window)).map (·.baseStep)).getD c.nominal
    else if (t.close c).lock = .locked then (t.rawStep c (t.verdict c)).getD t.lastAccepted
    else if (t.close c).lock = .hold then t.lastAccepted
    else c.nominal := by
  have hmoved := t.lockMoved_moveLock c (t.verdict c)
  unfold LockMoved at hmoved
  have hlast : (t.moveLock c (t.verdict c)).lastAccepted = t.lastAccepted := (congrArg Tracker.lastAccepted hmoved).trans rfl
  have hnewest : (t.moveLock c (t.verdict c)).newest (tableSlots c.settings.window) = t.newest (tableSlots c.settings.window) :=
    (congrArg (fun m : Tracker => m.newest (tableSlots c.settings.window)) hmoved).trans rfl
  show (t.moveLock c (t.verdict c)).baseStep c (t.verdict c) (t.rawStep c (t.verdict c)) = _
  unfold baseStep
  rw [hlast, hnewest]
  split
  · cases t.newest (tableSlots c.settings.window) <;> rfl
  · rw [close_lock]
    cases (t.moveLock c (t.verdict c)).lock <;> simp

theorem trimOf_eq (v : Option Verdict) : t.trimOf c v =
    if c.settings.skewMode = .auto ∧ v = some .inside ∧ c.length * 1024 ≤ t.sums.pL * 2 ∧ c.length * 1024 ≤ t.sums.pR * 2 ∧
        1 ≤ t.sums.offsetCount then
      min 8 (((2 * t.sums.offsetSum + 64 * t.sums.offsetCount) / (128 * t.sums.offsetCount) : Nat) : Int)
    else ((t.newest (tableSlots c.settings.window)).map (·.trim)).getD 0 := by
  unfold trimOf
  split
  · rw [roundHalfAway_ofNat, clampInt_eq_max_min (by decide)]
    exact Int.max_eq_right (Int.le_min.mpr ⟨by decide, Int.le_trans (by decide) (Int.natCast_nonneg _)⟩)
  · cases t.newest (tableSlots c.settings.window) <;> rfl

theorem skewListAfter_eq : t.skewListAfter = if t.sums.offsetCount = 0 then t.skewList
    else (t.skewList ++ [t.sums.offsetSum / t.sums.offsetCount]).drop (t.skewList.length + 1 - 8) := by
  unfold skewListAfter
  by_cases hcount : t.sums.offsetCount = 0
  · rw [if_pos hcount, if_pos hcount]
  · rw [if_neg hcount, if_neg hcount]
    split
    next h =>
      have hzero : t.skewList.length + 1 - 8 = 0 := by omega
      rw [hzero, List.drop_zero]
    next h =>
      have hle : t.skewList.length + 1 - 8 ≤ t.skewList.length := by omega
      have hseven : t.skewList.length + 1 - 8 = t.skewList.length - 7 := by omega
      rw [List.drop_append_of_le_length hle, hseven]

end Tracker

/-- Windows nearer than the table is long have slots of their own. -/
theorem mod_ne_of_near {k n slots : Nat} (hk : k < n) (hnear : n < k + slots) : k % slots ≠ n % slots := fun heq => by
  have hzero := Nat.sub_mod_eq_zero_of_mod_eq heq.symm
  rw [Nat.mod_eq_of_lt (by omega)] at hzero
  omega

/-- Every entry of the table is still read after the end-of-capture close, the one whose slot the close takes from beside the table. -/
theorem Tracker.close_entry (t : Tracker) (c : Closing) (hend : c.atEnd = true) {k : Nat} {e : SpeedEntry} (hk : k ≠ t.windows)
    (he : tableEntry t.table (tableSlots c.settings.window) k = some e) :
    ((t.close c).entry (tableSlots c.settings.window) k).map SpeedEntry.bare = some e.bare := by
  obtain ⟨hfind, hwindow⟩ := tableEntry_eq_some_iff.mp he
  have htable := t.close_table c k
  by_cases hslot : k % tableSlots c.settings.window = t.windows % tableSlots c.settings.window
  · have hnone : tableEntry (t.tableWith c) (tableSlots c.settings.window) k = none :=
      tableEntry_eq_none (e := t.entryOf c) (by rw [hslot]; exact slotFind_slotPut_self ..) (Ne.symm hk)
    rw [hnone] at htable
    have hdisplaced : (t.close c).displaced = some e := by rw [close_displaced, if_pos hend, ← hslot, hfind]
    unfold Tracker.entry
    have hread : (some e).filter (fun q => decide (q.window = k)) = some e :=
      Option.filter_eq_some_iff.mpr ⟨rfl, decide_eq_true hwindow⟩
    rw [Option.map_eq_none_iff.mp htable, hdisplaced, hread]
    rfl
  · have hkept : tableEntry (t.tableWith c) (tableSlots c.settings.window) k = some e := (tableEntry_slotPut_of_ne hslot).trans he
    rw [hkept] at htable
    obtain ⟨q, hq, hbare⟩ := Option.map_eq_some_iff.mp htable
    rw [Tracker.entry_of_tableEntry hq, Option.map_some, hbare]

/-- Settles O40: the entry field by field, the table by its slots, the finalisation by its members. -/
theorem windowCloseWritesTheEntry : Obligations.WindowCloseWritesTheEntry := by
  intro t c _ slots h u bare v e older sums bias
  obtain ⟨hwindows, hsums, hsource, hleft, hright⟩ := t.close_kept c
  have htable := t.close_table c
  refine ⟨?_, ?_, t.rawStep_eq c v, t.entryOf_baseStep c, t.close_lastAccepted c, t.trimOf_eq c v,
    (t.close_skewList c).trans t.skewListAfter_eq, hwindows, hsums, hsource, hleft, hright, ?_, fun k hk hnear => ?_,
    t.close_displaced c, fun hend k q hk hq => ?_, t.close_final c, fun k q hq hlow hhigh => ?_⟩
  · exact Prod.ext rfl (Prod.ext rfl (Prod.ext rfl (t.entryOf_lock_eq c)))
  · show (t.windowN c, t.windowP c) = _
    unfold Tracker.windowN Tracker.windowP
    cases t.source with
    | deck => cases c.period <;> rfl
    | none => rfl
    | biasL => rfl
    | biasR => rfl
    | biasBoth => rfl
  · exact (htable t.windows).trans (congrArg (Option.map SpeedEntry.bare) (t.tableWith_self c))
  · exact (htable k).trans (congrArg (Option.map SpeedEntry.bare) (tableEntry_slotPut_of_ne (mod_ne_of_near hk hnear)))
  · exact t.close_entry c hend hk hq
  · have hwindow := (tableEntry_eq_some_iff.mp hq).2
    have happlied := t.close_applied c hq hlow hhigh
    unfold appliedStepOf at happlied
    rw [hwindow] at happlied
    exact happlied

end Sys2Proof.Machine
end
